-- ==== Sys2Proof/Word.lean ====
section
/-! DEFINITION. The word types of the facility (`00_scope.md` R7, R10; `10_state.md` R20 to R22, R44). -/

namespace Sys2Proof

/-- One byte of the instruction stream (`30_encoding.md` R75). -/
abbrev Byte := BitVec 8

/-- A 32-bit general register as the three instructions name it: EAX, ECX, EDX (R44). -/
abbrev Word := BitVec 32

/-- A whole model-specific register, EDX:EAX (R20, R53, R54). -/
abbrev Quad := BitVec 64

/-- The CTR field of a PerfCtr register: bits 47-0 (R22). -/
abbrev Count := BitVec 48

end Sys2Proof
end

