-- ==== Sys2Proof/Syntax.lean ====
section
/-! DEFINITION. The instructions: one constructor for each row of the opcode table. The first three are the register-access
instructions (`40_register_access.md`), whose operands are implicit; the other 87 are the control words of the counting
agent, whose EVENT_SELECT field is the opcode and whose other fields are the operands (`30_encoding.md` R73, R86, R87). -/

namespace Sys2Proof

/-- The fields of a control word besides EVENT_SELECT (`10_state.md` R26 to R35). -/
structure Qualifiers where
  /-- UNIT_MASK, bits 15-8 (R26). -/
  unitMask : BitVec 8
  /-- USR, bit 16 (R27). -/
  usr : Bool
  /-- OS, bit 17 (R28). -/
  os : Bool
  /-- E, bit 18 (R29). -/
  edge : Bool
  /-- PC, bit 19 (R30). -/
  pinControl : Bool
  /-- INT, bit 20 (R31). -/
  intEnable : Bool
  /-- EN, bit 22 (R33). -/
  enable : Bool
  /-- INV, bit 23 (R34). -/
  invert : Bool
  /-- CNT_MASK, bits 31-24 (R35). -/
  cntMask : BitVec 8
  deriving DecidableEq, Repr, Inhabited

/-- The instructions of the opcode table. -/
inductive Instr where
  /-- WRMSR (R103). -/
  | wrmsr
  /-- RDMSR (R101). -/
  | rdmsr
  /-- RDPMC (R106). -/
  | rdpmc
  /-- R200, EVT_00h: Dispatched FPU Operations. -/
  | evt00h (q : Qualifiers)
  /-- R201, EVT_01h: Cycles with no FPU Ops Retired. -/
  | evt01h (q : Qualifiers)
  /-- R202, EVT_02h: Dispatched Fast Flag FPU Operations. -/
  | evt02h (q : Qualifiers)
  /-- R203, EVT_20h: Segment Register Loads. -/
  | evt20h (q : Qualifiers)
  /-- R204, EVT_21h: Pipeline Restart Due to Self-Modifying Code. -/
  | evt21h (q : Qualifiers)
  /-- R205, EVT_22h: Pipeline Restart Due to Probe Hit. -/
  | evt22h (q : Qualifiers)
  /-- R206, EVT_23h: LS Buffer 2 Full. -/
  | evt23h (q : Qualifiers)
  /-- R207, EVT_24h: Locked Operations. -/
  | evt24h (q : Qualifiers)
  /-- R208, EVT_65h: Memory Requests by Type. -/
  | evt65h (q : Qualifiers)
  /-- R209, EVT_40h: Data Cache Accesses. -/
  | evt40h (q : Qualifiers)
  /-- R210, EVT_41h: Data Cache Misses. -/
  | evt41h (q : Qualifiers)
  /-- R211, EVT_42h: Data Cache Refills from L2 or System. -/
  | evt42h (q : Qualifiers)
  /-- R212, EVT_43h: Data Cache Refills from System. -/
  | evt43h (q : Qualifiers)
  /-- R213, EVT_44h: Data Cache Lines Evicted. -/
  | evt44h (q : Qualifiers)
  /-- R214, EVT_45h: L1 DTLB Miss and L2 DLTB Hit. -/
  | evt45h (q : Qualifiers)
  /-- R215, EVT_46h: L1 DTLB and L2 DLTB Miss. -/
  | evt46h (q : Qualifiers)
  /-- R216, EVT_47h: Misaligned Accesses. -/
  | evt47h (q : Qualifiers)
  /-- R217, EVT_48h: Microarchitectural Late Cancel of an Access. -/
  | evt48h (q : Qualifiers)
  /-- R218, EVT_49h: Microarchitectural Early Cancel of an Access. -/
  | evt49h (q : Qualifiers)
  /-- R219, EVT_4Ah: Single-bit ECC Errors Recorded by Scrubber. -/
  | evt4Ah (q : Qualifiers)
  /-- R220, EVT_4Bh: Prefetch Instructions Dispatched. -/
  | evt4Bh (q : Qualifiers)
  /-- R221, EVT_4Ch: DCACHE Misses by Locked Instructions. -/
  | evt4Ch (q : Qualifiers)
  /-- R222, EVT_67h: Data Prefetcher. -/
  | evt67h (q : Qualifiers)
  /-- R223, EVT_6Ch: System Read Responses by Coherency State. -/
  | evt6Ch (q : Qualifiers)
  /-- R224, EVT_6Dh: Quadwords Written to System. -/
  | evt6Dh (q : Qualifiers)
  /-- R225, EVT_7Dh: Requests to L2 Cache. -/
  | evt7Dh (q : Qualifiers)
  /-- R226, EVT_7Eh: L2 Cache Misses. -/
  | evt7Eh (q : Qualifiers)
  /-- R227, EVT_7Fh: L2 Fill/Writeback. -/
  | evt7Fh (q : Qualifiers)
  /-- R230, EVT_80h: Instruction Cache Fetches. -/
  | evt80h (q : Qualifiers)
  /-- R231, EVT_81h: Instruction Cache Misses. -/
  | evt81h (q : Qualifiers)
  /-- R232, EVT_82h: Instruction Cache Refills from L2. -/
  | evt82h (q : Qualifiers)
  /-- R233, EVT_83h: Instruction Cache Refills from System. -/
  | evt83h (q : Qualifiers)
  /-- R234, EVT_84h: L1 ITLB Miss, L2 ITLB Hit. -/
  | evt84h (q : Qualifiers)
  /-- R235, EVT_85h: L1 ITLB Miss, L2 ITLB Miss. -/
  | evt85h (q : Qualifiers)
  /-- R236, EVT_86h: Pipeline Restart Due to Instruction Stream Probe. -/
  | evt86h (q : Qualifiers)
  /-- R237, EVT_87h: Instruction Fetch Stall. -/
  | evt87h (q : Qualifiers)
  /-- R238, EVT_88h: Return Stack Hits. -/
  | evt88h (q : Qualifiers)
  /-- R239, EVT_89h: Return Stack Overflows. -/
  | evt89h (q : Qualifiers)
  /-- R240, EVT_26h: Retired CLFLUSH Instructions. -/
  | evt26h (q : Qualifiers)
  /-- R241, EVT_27h: Retired CPUID Instructions. -/
  | evt27h (q : Qualifiers)
  /-- R242, EVT_76h: CPU Clocks not Halted. -/
  | evt76h (q : Qualifiers)
  /-- R243, EVT_C0h: Retired Instructions. -/
  | evtC0h (q : Qualifiers)
  /-- R244, EVT_C1h: Retired uops. -/
  | evtC1h (q : Qualifiers)
  /-- R245, EVT_C2h: Retired Branch Instructions. -/
  | evtC2h (q : Qualifiers)
  /-- R246, EVT_C3h: Retired Mispredicted Branch Instructions. -/
  | evtC3h (q : Qualifiers)
  /-- R247, EVT_C4h: Retired Taken Branch Instructions. -/
  | evtC4h (q : Qualifiers)
  /-- R248, EVT_C5h: Retired Taken Branch Instructions Mispredicted. -/
  | evtC5h (q : Qualifiers)
  /-- R249, EVT_C6h: Retired Far Control Transfers. -/
  | evtC6h (q : Qualifiers)
  /-- R250, EVT_C7h: Retired Branch Resyncs. -/
  | evtC7h (q : Qualifiers)
  /-- R251, EVT_C8h: Retired Near Returns. -/
  | evtC8h (q : Qualifiers)
  /-- R252, EVT_C9h: Retired Near Returns Mispredicted. -/
  | evtC9h (q : Qualifiers)
  /-- R253, EVT_CAh: Retired Indirect Branches Mispredicted. -/
  | evtCAh (q : Qualifiers)
  /-- R254, EVT_CBh: Retired MMX/FP Instructions. -/
  | evtCBh (q : Qualifiers)
  /-- R255, EVT_CCh: Retired Fastpath Double op Instructions. -/
  | evtCCh (q : Qualifiers)
  /-- R256, EVT_CDh: Interrupts-Masked Cycles. -/
  | evtCDh (q : Qualifiers)
  /-- R257, EVT_CEh: Interrupts-Masked Cycles with Interrupt Pending. -/
  | evtCEh (q : Qualifiers)
  /-- R258, EVT_CFh: Interrupts Taken. -/
  | evtCFh (q : Qualifiers)
  /-- R259, EVT_D0h: Decoder Empty. -/
  | evtD0h (q : Qualifiers)
  /-- R260, EVT_D1h: Dispatch Stalls. -/
  | evtD1h (q : Qualifiers)
  /-- R261, EVT_D2h: Dispatch Stall for Branch Abort to Retire. -/
  | evtD2h (q : Qualifiers)
  /-- R262, EVT_D3h: Dispatch Stall for Serialization. -/
  | evtD3h (q : Qualifiers)
  /-- R263, EVT_D4h: Dispatch Stall for Segment Load. -/
  | evtD4h (q : Qualifiers)
  /-- R264, EVT_D5h: Dispatch Stall for Reorder Buffer Full. -/
  | evtD5h (q : Qualifiers)
  /-- R265, EVT_D6h: Dispatch Stall for Reservation Station Full. -/
  | evtD6h (q : Qualifiers)
  /-- R266, EVT_D7h: Dispatch Stall for FPU Full. -/
  | evtD7h (q : Qualifiers)
  /-- R267, EVT_D8h: Dispatch Stall for LS Full. -/
  | evtD8h (q : Qualifiers)
  /-- R268, EVT_D9h: Dispatch Stall Waiting for All Quiet. -/
  | evtD9h (q : Qualifiers)
  /-- R269, EVT_DAh: Dispatch Stall for Far Transfer or Resync to Retire. -/
  | evtDAh (q : Qualifiers)
  /-- R270, EVT_DBh: FPU Exceptions. -/
  | evtDBh (q : Qualifiers)
  /-- R271, EVT_DCh: DR0 Breakpoint Matches. -/
  | evtDCh (q : Qualifiers)
  /-- R272, EVT_DDh: DR1 Breakpoint Matches. -/
  | evtDDh (q : Qualifiers)
  /-- R273, EVT_DEh: DR2 Breakpoint Matches. -/
  | evtDEh (q : Qualifiers)
  /-- R274, EVT_DFh: DR3 Breakpoint Matches. -/
  | evtDFh (q : Qualifiers)
  /-- R281, EVT_E0h: DRAM Accesses. -/
  | evtE0h (q : Qualifiers)
  /-- R282, EVT_E1h: Memory Controller Page Table Overflows. -/
  | evtE1h (q : Qualifiers)
  /-- R283, EVT_E3h: Memory Controller Turnarounds. -/
  | evtE3h (q : Qualifiers)
  /-- R284, EVT_E4h: Memory Controller Bypass Counter Saturation. -/
  | evtE4h (q : Qualifiers)
  /-- R285, EVT_E5h: Sized Blocks. -/
  | evtE5h (q : Qualifiers)
  /-- R286, EVT_E8h: ECC Errors. -/
  | evtE8h (q : Qualifiers)
  /-- R287, EVT_E9h: CPU/IO Requests to Memory/IO. -/
  | evtE9h (q : Qualifiers)
  /-- R288, EVT_EAh: Cache Block Commands. -/
  | evtEAh (q : Qualifiers)
  /-- R289, EVT_EBh: Sized Commands. -/
  | evtEBh (q : Qualifiers)
  /-- R290, EVT_ECh: Probe Responses and Upstream Requests. -/
  | evtECh (q : Qualifiers)
  /-- R291, EVT_EEh: GART Events. -/
  | evtEEh (q : Qualifiers)
  /-- R292, EVT_F6h: HyperTransport Link 0 Transmit Bandwidth. -/
  | evtF6h (q : Qualifiers)
  /-- R293, EVT_F7h: HyperTransport Link 1 Transmit Bandwidth. -/
  | evtF7h (q : Qualifiers)
  /-- R294, EVT_F8h: HyperTransport Link 2 Transmit Bandwidth. -/
  | evtF8h (q : Qualifiers)
  deriving DecidableEq, Repr, Inhabited

end Sys2Proof
end

