-- ==== Sys2Proof/Decode.lean ====
section
/-! DEFINITION. Decoding and encoding. An instruction of the instruction stream is two bytes in fetch order
(`30_encoding.md` R75, R76); an instruction of the counting agent is the value of a PerfEvtSel register (R71 to R73). -/

namespace Sys2Proof

/-- Where an instruction stands: bytes of the instruction stream, the lowest address first, or the value of a
PerfEvtSel register. -/
inductive Encoding where
  | bytes (bs : List Byte)
  | control (v : Quad)
  deriving DecidableEq, Repr

/-- Why a decoder gives no instruction. -/
inductive DecodeError where
  /-- the byte that decides is not there -/
  | truncated
  /-- an instruction outside the spec (R76, R83, D11) -/
  | otherOpcode
  /-- an EVENT_SELECT code without a definition (R78, D17) -/
  | reservedEvent
  deriving DecidableEq, Repr

/-- EVENT_SELECT of a control word (R25). -/
def eventCode (v : Quad) : BitVec 8 :=
  v.extractLsb' 0 8

/-- The other fields of a control word; bit 21 and bits 63-32 are not looked at (R71, R73). -/
def qualifiersOf (v : Quad) : Qualifiers where
  unitMask := v.extractLsb' 8 8
  usr := v.getLsbD 16
  os := v.getLsbD 17
  edge := v.getLsbD 18
  pinControl := v.getLsbD 19
  intEnable := v.getLsbD 20
  enable := v.getLsbD 22
  invert := v.getLsbD 23
  cntMask := v.extractLsb' 24 8

/-- The event-code map (R77, R87); none for a reserved code (R78). -/
def instrOfCode (code : BitVec 8) (q : Qualifiers) : Option Instr :=
  match code.toNat with
  | 0x00 => some (.evt00h q)
  | 0x01 => some (.evt01h q)
  | 0x02 => some (.evt02h q)
  | 0x20 => some (.evt20h q)
  | 0x21 => some (.evt21h q)
  | 0x22 => some (.evt22h q)
  | 0x23 => some (.evt23h q)
  | 0x24 => some (.evt24h q)
  | 0x65 => some (.evt65h q)
  | 0x40 => some (.evt40h q)
  | 0x41 => some (.evt41h q)
  | 0x42 => some (.evt42h q)
  | 0x43 => some (.evt43h q)
  | 0x44 => some (.evt44h q)
  | 0x45 => some (.evt45h q)
  | 0x46 => some (.evt46h q)
  | 0x47 => some (.evt47h q)
  | 0x48 => some (.evt48h q)
  | 0x49 => some (.evt49h q)
  | 0x4A => some (.evt4Ah q)
  | 0x4B => some (.evt4Bh q)
  | 0x4C => some (.evt4Ch q)
  | 0x67 => some (.evt67h q)
  | 0x6C => some (.evt6Ch q)
  | 0x6D => some (.evt6Dh q)
  | 0x7D => some (.evt7Dh q)
  | 0x7E => some (.evt7Eh q)
  | 0x7F => some (.evt7Fh q)
  | 0x80 => some (.evt80h q)
  | 0x81 => some (.evt81h q)
  | 0x82 => some (.evt82h q)
  | 0x83 => some (.evt83h q)
  | 0x84 => some (.evt84h q)
  | 0x85 => some (.evt85h q)
  | 0x86 => some (.evt86h q)
  | 0x87 => some (.evt87h q)
  | 0x88 => some (.evt88h q)
  | 0x89 => some (.evt89h q)
  | 0x26 => some (.evt26h q)
  | 0x27 => some (.evt27h q)
  | 0x76 => some (.evt76h q)
  | 0xC0 => some (.evtC0h q)
  | 0xC1 => some (.evtC1h q)
  | 0xC2 => some (.evtC2h q)
  | 0xC3 => some (.evtC3h q)
  | 0xC4 => some (.evtC4h q)
  | 0xC5 => some (.evtC5h q)
  | 0xC6 => some (.evtC6h q)
  | 0xC7 => some (.evtC7h q)
  | 0xC8 => some (.evtC8h q)
  | 0xC9 => some (.evtC9h q)
  | 0xCA => some (.evtCAh q)
  | 0xCB => some (.evtCBh q)
  | 0xCC => some (.evtCCh q)
  | 0xCD => some (.evtCDh q)
  | 0xCE => some (.evtCEh q)
  | 0xCF => some (.evtCFh q)
  | 0xD0 => some (.evtD0h q)
  | 0xD1 => some (.evtD1h q)
  | 0xD2 => some (.evtD2h q)
  | 0xD3 => some (.evtD3h q)
  | 0xD4 => some (.evtD4h q)
  | 0xD5 => some (.evtD5h q)
  | 0xD6 => some (.evtD6h q)
  | 0xD7 => some (.evtD7h q)
  | 0xD8 => some (.evtD8h q)
  | 0xD9 => some (.evtD9h q)
  | 0xDA => some (.evtDAh q)
  | 0xDB => some (.evtDBh q)
  | 0xDC => some (.evtDCh q)
  | 0xDD => some (.evtDDh q)
  | 0xDE => some (.evtDEh q)
  | 0xDF => some (.evtDFh q)
  | 0xE0 => some (.evtE0h q)
  | 0xE1 => some (.evtE1h q)
  | 0xE3 => some (.evtE3h q)
  | 0xE4 => some (.evtE4h q)
  | 0xE5 => some (.evtE5h q)
  | 0xE8 => some (.evtE8h q)
  | 0xE9 => some (.evtE9h q)
  | 0xEA => some (.evtEAh q)
  | 0xEB => some (.evtEBh q)
  | 0xEC => some (.evtECh q)
  | 0xEE => some (.evtEEh q)
  | 0xF6 => some (.evtF6h q)
  | 0xF7 => some (.evtF7h q)
  | 0xF8 => some (.evtF8h q)
  | _ => none

/-- What the counting agent reads from the value of a PerfEvtSel register (R73). -/
def decodeControl (v : Quad) : Except DecodeError Instr :=
  match instrOfCode (eventCode v) (qualifiersOf v) with
  | some i => .ok i
  | none => .error .reservedEvent

/-- What the instruction agent reads from the bytes at its program counter (R75): exactly the three two-byte sequences;
everything else is outside the spec (R76). -/
def decodeBytes (bs : List Byte) : Except DecodeError Instr :=
  match bs with
  | [] => .error .truncated
  | b :: rest =>
    if b = 0x0F then
      match rest with
      | [] => .error .truncated
      | c :: _ =>
        if c = 0x30 then .ok .wrmsr
        else if c = 0x32 then .ok .rdmsr
        else if c = 0x33 then .ok .rdpmc
        else .error .otherOpcode
    else .error .otherOpcode

/-- The instruction an encoding stands for. -/
def decode : Encoding → Except DecodeError Instr
  | .bytes bs => decodeBytes bs
  | .control v => decodeControl v

/-- Assembly of a control word (R72): each field at its place, bit 21 and bits 63-32 zero. -/
def assemble (code : BitVec 8) (q : Qualifiers) : Quad :=
  code.setWidth 64
    ||| (q.unitMask.setWidth 64 <<< 8)
    ||| ((BitVec.ofBool q.usr).setWidth 64 <<< 16)
    ||| ((BitVec.ofBool q.os).setWidth 64 <<< 17)
    ||| ((BitVec.ofBool q.edge).setWidth 64 <<< 18)
    ||| ((BitVec.ofBool q.pinControl).setWidth 64 <<< 19)
    ||| ((BitVec.ofBool q.intEnable).setWidth 64 <<< 20)
    ||| ((BitVec.ofBool q.enable).setWidth 64 <<< 22)
    ||| ((BitVec.ofBool q.invert).setWidth 64 <<< 23)
    ||| (q.cntMask.setWidth 64 <<< 24)

/-- The encoding of an instruction (R72, R75). -/
def encode : Instr → Encoding
  | .wrmsr => .bytes [0x0F, 0x30]
  | .rdmsr => .bytes [0x0F, 0x32]
  | .rdpmc => .bytes [0x0F, 0x33]
  | .evt00h q => .control (assemble 0x00 q)
  | .evt01h q => .control (assemble 0x01 q)
  | .evt02h q => .control (assemble 0x02 q)
  | .evt20h q => .control (assemble 0x20 q)
  | .evt21h q => .control (assemble 0x21 q)
  | .evt22h q => .control (assemble 0x22 q)
  | .evt23h q => .control (assemble 0x23 q)
  | .evt24h q => .control (assemble 0x24 q)
  | .evt65h q => .control (assemble 0x65 q)
  | .evt40h q => .control (assemble 0x40 q)
  | .evt41h q => .control (assemble 0x41 q)
  | .evt42h q => .control (assemble 0x42 q)
  | .evt43h q => .control (assemble 0x43 q)
  | .evt44h q => .control (assemble 0x44 q)
  | .evt45h q => .control (assemble 0x45 q)
  | .evt46h q => .control (assemble 0x46 q)
  | .evt47h q => .control (assemble 0x47 q)
  | .evt48h q => .control (assemble 0x48 q)
  | .evt49h q => .control (assemble 0x49 q)
  | .evt4Ah q => .control (assemble 0x4A q)
  | .evt4Bh q => .control (assemble 0x4B q)
  | .evt4Ch q => .control (assemble 0x4C q)
  | .evt67h q => .control (assemble 0x67 q)
  | .evt6Ch q => .control (assemble 0x6C q)
  | .evt6Dh q => .control (assemble 0x6D q)
  | .evt7Dh q => .control (assemble 0x7D q)
  | .evt7Eh q => .control (assemble 0x7E q)
  | .evt7Fh q => .control (assemble 0x7F q)
  | .evt80h q => .control (assemble 0x80 q)
  | .evt81h q => .control (assemble 0x81 q)
  | .evt82h q => .control (assemble 0x82 q)
  | .evt83h q => .control (assemble 0x83 q)
  | .evt84h q => .control (assemble 0x84 q)
  | .evt85h q => .control (assemble 0x85 q)
  | .evt86h q => .control (assemble 0x86 q)
  | .evt87h q => .control (assemble 0x87 q)
  | .evt88h q => .control (assemble 0x88 q)
  | .evt89h q => .control (assemble 0x89 q)
  | .evt26h q => .control (assemble 0x26 q)
  | .evt27h q => .control (assemble 0x27 q)
  | .evt76h q => .control (assemble 0x76 q)
  | .evtC0h q => .control (assemble 0xC0 q)
  | .evtC1h q => .control (assemble 0xC1 q)
  | .evtC2h q => .control (assemble 0xC2 q)
  | .evtC3h q => .control (assemble 0xC3 q)
  | .evtC4h q => .control (assemble 0xC4 q)
  | .evtC5h q => .control (assemble 0xC5 q)
  | .evtC6h q => .control (assemble 0xC6 q)
  | .evtC7h q => .control (assemble 0xC7 q)
  | .evtC8h q => .control (assemble 0xC8 q)
  | .evtC9h q => .control (assemble 0xC9 q)
  | .evtCAh q => .control (assemble 0xCA q)
  | .evtCBh q => .control (assemble 0xCB q)
  | .evtCCh q => .control (assemble 0xCC q)
  | .evtCDh q => .control (assemble 0xCD q)
  | .evtCEh q => .control (assemble 0xCE q)
  | .evtCFh q => .control (assemble 0xCF q)
  | .evtD0h q => .control (assemble 0xD0 q)
  | .evtD1h q => .control (assemble 0xD1 q)
  | .evtD2h q => .control (assemble 0xD2 q)
  | .evtD3h q => .control (assemble 0xD3 q)
  | .evtD4h q => .control (assemble 0xD4 q)
  | .evtD5h q => .control (assemble 0xD5 q)
  | .evtD6h q => .control (assemble 0xD6 q)
  | .evtD7h q => .control (assemble 0xD7 q)
  | .evtD8h q => .control (assemble 0xD8 q)
  | .evtD9h q => .control (assemble 0xD9 q)
  | .evtDAh q => .control (assemble 0xDA q)
  | .evtDBh q => .control (assemble 0xDB q)
  | .evtDCh q => .control (assemble 0xDC q)
  | .evtDDh q => .control (assemble 0xDD q)
  | .evtDEh q => .control (assemble 0xDE q)
  | .evtDFh q => .control (assemble 0xDF q)
  | .evtE0h q => .control (assemble 0xE0 q)
  | .evtE1h q => .control (assemble 0xE1 q)
  | .evtE3h q => .control (assemble 0xE3 q)
  | .evtE4h q => .control (assemble 0xE4 q)
  | .evtE5h q => .control (assemble 0xE5 q)
  | .evtE8h q => .control (assemble 0xE8 q)
  | .evtE9h q => .control (assemble 0xE9 q)
  | .evtEAh q => .control (assemble 0xEA q)
  | .evtEBh q => .control (assemble 0xEB q)
  | .evtECh q => .control (assemble 0xEC q)
  | .evtEEh q => .control (assemble 0xEE q)
  | .evtF6h q => .control (assemble 0xF6 q)
  | .evtF7h q => .control (assemble 0xF7 q)
  | .evtF8h q => .control (assemble 0xF8 q)

/-- The fields of an event's control word besides EVENT_SELECT; none for the three register-access instructions. -/
def qualifiers : Instr → Option Qualifiers
  | .wrmsr => none
  | .rdmsr => none
  | .rdpmc => none
  | .evt00h q => some q
  | .evt01h q => some q
  | .evt02h q => some q
  | .evt20h q => some q
  | .evt21h q => some q
  | .evt22h q => some q
  | .evt23h q => some q
  | .evt24h q => some q
  | .evt65h q => some q
  | .evt40h q => some q
  | .evt41h q => some q
  | .evt42h q => some q
  | .evt43h q => some q
  | .evt44h q => some q
  | .evt45h q => some q
  | .evt46h q => some q
  | .evt47h q => some q
  | .evt48h q => some q
  | .evt49h q => some q
  | .evt4Ah q => some q
  | .evt4Bh q => some q
  | .evt4Ch q => some q
  | .evt67h q => some q
  | .evt6Ch q => some q
  | .evt6Dh q => some q
  | .evt7Dh q => some q
  | .evt7Eh q => some q
  | .evt7Fh q => some q
  | .evt80h q => some q
  | .evt81h q => some q
  | .evt82h q => some q
  | .evt83h q => some q
  | .evt84h q => some q
  | .evt85h q => some q
  | .evt86h q => some q
  | .evt87h q => some q
  | .evt88h q => some q
  | .evt89h q => some q
  | .evt26h q => some q
  | .evt27h q => some q
  | .evt76h q => some q
  | .evtC0h q => some q
  | .evtC1h q => some q
  | .evtC2h q => some q
  | .evtC3h q => some q
  | .evtC4h q => some q
  | .evtC5h q => some q
  | .evtC6h q => some q
  | .evtC7h q => some q
  | .evtC8h q => some q
  | .evtC9h q => some q
  | .evtCAh q => some q
  | .evtCBh q => some q
  | .evtCCh q => some q
  | .evtCDh q => some q
  | .evtCEh q => some q
  | .evtCFh q => some q
  | .evtD0h q => some q
  | .evtD1h q => some q
  | .evtD2h q => some q
  | .evtD3h q => some q
  | .evtD4h q => some q
  | .evtD5h q => some q
  | .evtD6h q => some q
  | .evtD7h q => some q
  | .evtD8h q => some q
  | .evtD9h q => some q
  | .evtDAh q => some q
  | .evtDBh q => some q
  | .evtDCh q => some q
  | .evtDDh q => some q
  | .evtDEh q => some q
  | .evtDFh q => some q
  | .evtE0h q => some q
  | .evtE1h q => some q
  | .evtE3h q => some q
  | .evtE4h q => some q
  | .evtE5h q => some q
  | .evtE8h q => some q
  | .evtE9h q => some q
  | .evtEAh q => some q
  | .evtEBh q => some q
  | .evtECh q => some q
  | .evtEEh q => some q
  | .evtF6h q => some q
  | .evtF7h q => some q
  | .evtF8h q => some q

/-- The bytes of a table row of instructions: R86 reads the two bytes as a 16-bit number with the first byte in the high
position. -/
def rowBytes (w : Nat) : List Byte :=
  [BitVec.ofNat 8 (w / 256), BitVec.ofNat 8 w]

/-- The control word of a table row of events: the bits the table gives, every other bit 0 (R87). -/
def rowControl (nbits w : Nat) : Quad :=
  BitVec.ofNat 64 (w % 2 ^ nbits)

/-- The instruction that a row of the opcode table stands for: 16 bits are two instruction bytes (R86), any other width
is the low part of a control word (R87). -/
def decodeTableWord (nbits w : Nat) : Option Instr :=
  match (if nbits = 16 then decodeBytes (rowBytes w) else decodeControl (rowControl nbits w)) with
  | .ok i => some i
  | .error _ => none

end Sys2Proof
end

