-- ==== Sys2Proof/Config.lean ====
section
/-! DEFINITION. What a part fixes (`92_eei_decisions.md`, parameters), the shape of the inputs the environment gives
(`00_scope.md` R11: `occ`, `cpl`, `halted`), and the free values: constants without a body, which no proof can see. -/

namespace Sys2Proof

/-- The two cores a processor may have (R42, R315). -/
inductive CoreId where
  | core0
  | core1
  deriving DecidableEq, Repr, Inhabited

/-- The other core of a dual-core processor (R316). -/
def CoreId.other : CoreId → CoreId
  | .core0 => .core1
  | .core1 => .core0

/-- The number of a counter, of its event-select register and of its pin (R20, R39). -/
inductive CtrId where
  | c0
  | c1
  | c2
  | c3
  deriving DecidableEq, Repr, Inhabited

/-- Four like things, one for each counter number. -/
structure Bank (α : Type) where
  c0 : α
  c1 : α
  c2 : α
  c3 : α
  deriving DecidableEq, Repr, Inhabited

/-- The thing with number `i`. -/
def Bank.get {α : Type} (b : Bank α) : CtrId → α
  | .c0 => b.c0
  | .c1 => b.c1
  | .c2 => b.c2
  | .c3 => b.c3

/-- The bank with the thing of number `i` replaced. -/
def Bank.set {α : Type} (b : Bank α) (i : CtrId) (a : α) : Bank α :=
  match i with
  | .c0 => { b with c0 := a }
  | .c1 => { b with c1 := a }
  | .c2 => { b with c2 := a }
  | .c3 => { b with c3 := a }

/-- The silicon revision classes the source tells apart (R8, D25). -/
inductive Rev where
  | beforeD
  | d
  | eOrLater
  deriving DecidableEq, Repr, Inhabited

/-- `a.le b`: what exists from revision `a` on exists in a part of revision `b` (D25). -/
def Rev.le : Rev → Rev → Bool
  | .beforeD, _ => true
  | .d, .beforeD => false
  | .d, _ => true
  | .eOrLater, .eOrLater => true
  | .eOrLater, _ => false

/-- What parameter `EVENTS` lists (R8): an EVENT_SELECT code that the part implements, with the UNIT_MASK bits that it
implements for it (0 for a code without a table). -/
abbrev EventList := List (BitVec 8 × BitVec 8)

/-- What the list says of a code: its UNIT_MASK bits, or none where the part does not implement it. -/
def EventList.bitsOf : EventList → BitVec 8 → Option (BitVec 8)
  | [], _ => none
  | (c, bits) :: rest, code => if c = code then some bits else EventList.bitsOf rest code

/-- The floating-point unit, load/store unit and TLB events with their defined UNIT_MASK bits (R77, R79). -/
def Config.fpuLsEvents : EventList :=
  [(0x00, 0x3F), (0x01, 0x00), (0x02, 0x00), (0x20, 0x7F), (0x21, 0x00), (0x22, 0x00), (0x23, 0x00),
   (0x24, 0x07), (0x65, 0x83)]

/-- The data cache events with their defined UNIT_MASK bits (R77, R79). -/
def Config.dcEvents : EventList :=
  [(0x40, 0x00), (0x41, 0x00), (0x42, 0x1F), (0x43, 0x1F), (0x44, 0x1F), (0x45, 0x00), (0x46, 0x00),
   (0x47, 0x00), (0x48, 0x00), (0x49, 0x00), (0x4A, 0x03), (0x4B, 0x07), (0x4C, 0x02)]

/-- The L2 cache and system interface events with their defined UNIT_MASK bits (R77, R79). -/
def Config.l2Events : EventList :=
  [(0x67, 0x03), (0x6C, 0x07), (0x6D, 0x01), (0x7D, 0x1F), (0x7E, 0x07), (0x7F, 0x03)]

/-- The instruction cache events with their defined UNIT_MASK bits (R77, R79). -/
def Config.icEvents : EventList :=
  [(0x80, 0x00), (0x81, 0x00), (0x82, 0x00), (0x83, 0x00), (0x84, 0x00), (0x85, 0x00), (0x86, 0x00),
   (0x87, 0x00), (0x88, 0x00), (0x89, 0x00)]

/-- The execution unit events with their defined UNIT_MASK bits (R77, R79). -/
def Config.exEvents : EventList :=
  [(0x26, 0x00), (0x27, 0x00), (0x76, 0x00), (0xC0, 0x00), (0xC1, 0x00), (0xC2, 0x00), (0xC3, 0x00),
   (0xC4, 0x00), (0xC5, 0x00), (0xC6, 0x00), (0xC7, 0x00), (0xC8, 0x00), (0xC9, 0x00), (0xCA, 0x00),
   (0xCB, 0x0F), (0xCC, 0x07), (0xCD, 0x00), (0xCE, 0x00), (0xCF, 0x00), (0xD0, 0x00), (0xD1, 0x00),
   (0xD2, 0x00), (0xD3, 0x00), (0xD4, 0x00), (0xD5, 0x00), (0xD6, 0x00), (0xD7, 0x00), (0xD8, 0x00),
   (0xD9, 0x00), (0xDA, 0x00), (0xDB, 0x0F), (0xDC, 0x00), (0xDD, 0x00), (0xDE, 0x00), (0xDF, 0x00)]

/-- The memory controller and HyperTransport interface events with their defined UNIT_MASK bits (R77, R79). -/
def Config.nbEvents : EventList :=
  [(0xE0, 0x07), (0xE1, 0x00), (0xE3, 0x07), (0xE4, 0x0F), (0xE5, 0x3C), (0xE8, 0x80), (0xE9, 0xFF),
   (0xEA, 0x3D), (0xEB, 0x7F), (0xEC, 0x7F), (0xEE, 0x07), (0xF6, 0x0F), (0xF7, 0x0F), (0xF8, 0x0F)]

/-- The default of `EVENTS`: the 87 events of the spec (`93_implementation_defined.md` U9). -/
def Config.allEvents : EventList :=
  Config.fpuLsEvents ++ Config.dcEvents ++ Config.l2Events ++ Config.icEvents ++ Config.exEvents ++ Config.nbEvents

/-- What a write of 1 to a reserved register bit does (R105, D3, D4). -/
inductive ReservedWritePolicy where
  | refuse
  | ignore
  | raise
  deriving DecidableEq, Repr, Inhabited

/-- Which agent moves next (R323, D1): the instruction agent of a core, its counting agent, or the environment, which
lets the core recognise an overflow interrupt that was requested (R301, R304, D15). -/
inductive Agent where
  | instr
  | count
  | interrupt
  deriving DecidableEq, Repr, Inhabited

/-- The oracle's report for one counter in one clock (R121): `count` for an event without a UNIT_MASK table, and one
entry of `lanes` for each row of the table of an event that has one, in the table's order (R122; an entry that is not
there is 0). -/
structure EventInput where
  count : BitVec 2
  lanes : List (BitVec 2)
  deriving DecidableEq, Repr, Inhabited

/-- The input lines of one core: its current privilege level (R11, R43), whether it is in Halt mode (R41), the control
bit that lets RDPMC run at any privilege level (`rdpmcUserAllowed`, R109), and 64-bit mode (`longMode`, D28). -/
structure CoreEnv where
  cpl : BitVec 2
  halted : Bool
  rdpmcUserAllowed : Bool
  longMode : Bool
  deriving DecidableEq, Repr, Inhabited

/-- What the environment presents until the next boundary between agent steps: who moves, the input lines of both
cores, and what the oracle reports for the four counters of the core that moves. -/
structure Env where
  agent : Agent
  core : CoreId
  core0 : CoreEnv
  core1 : CoreEnv
  occ : Bank EventInput
  deriving DecidableEq, Repr, Inhabited

/-- The input lines of core `c`. -/
def Env.lines (e : Env) : CoreId → CoreEnv
  | .core0 => e.core0
  | .core1 => e.core1

/-- The environment with other input lines of core `c`. -/
def Env.setLines (e : Env) (c : CoreId) (l : CoreEnv) : Env :=
  match c with
  | .core0 => { e with core0 := l }
  | .core1 => { e with core1 := l }

/-- Parameter `REV` (R8, D25). -/
opaque Config.rev : Rev

/-- Parameter `NCORE` (R8, D23): true for a dual-core processor. -/
opaque Config.dualCore : Bool

/-- Parameter `reservedWritePolicy` (R105, D3, D4). -/
opaque Config.reservedWritePolicy : ReservedWritePolicy

/-- The DRAM set-ups that the parameters `DRAMGRAN` and `DRAMWIDTH` allow together (R8, R281, R283): one channel with 32-
or 64-byte granularity, or two channels, to which 32-byte granularity is not applicable. -/
inductive DramSetup where
  | singleChannel32
  | singleChannel64
  | dualChannel
  deriving DecidableEq, Repr, Inhabited

/-- `DRAMGRAN`: bytes per DRAM access (R8, R281). -/
def DramSetup.granularity : DramSetup → Nat
  | .singleChannel32 => 32
  | .singleChannel64 => 64
  | .dualChannel => 64

/-- `DRAMWIDTH`: the DRAM data bus's width in bytes (R8, R283). -/
def DramSetup.width : DramSetup → Nat
  | .singleChannel32 => 8
  | .singleChannel64 => 8
  | .dualChannel => 16

/-- Parameters `DRAMGRAN` and `DRAMWIDTH` of the part (R8). -/
opaque Config.dram : DramSetup

/-- Parameter `NHTLINK`, 3: links 0, 1 and 2 (R8). -/
def Config.htLinks : Nat := 3

/-- FREE: the inputs and the choice of the next agent at boundary `n` (R121, R331, D1, D19). -/
opaque Config.env : Nat → Env

/-- FREE: the draw of an undefined configuration in step `n`, 0 to 3 (R11 `draw`, R137). -/
opaque Config.draw : Nat → BitVec 2

/-- FREE: where control goes when a trap or an interrupt is taken in step `n` (R307, R112). -/
opaque Config.trapTarget : Nat → BitVec 64

end Sys2Proof
end

