-- ==== Sys2Proof/Machine/Operands.lean ====
section
/-! DEFINITION. The event catalogue: for each event what its EVENT_SELECT code and UNIT_MASK select, and how the oracle's
report becomes the number of occurrences in the clock (`41_counting.md` R121, R122, R141; files 42 to 44). -/

namespace Sys2Proof.Machine

/-- Kind of an event or sub-event (R13): a thing that occurs 0 to 3 times in a clock, or a condition that holds or does
not hold in a clock (R141). -/
inductive Kind where
  | occurrence
  | cycle
  deriving DecidableEq, Repr

/-- One row of a UNIT_MASK table: the UNIT_MASK bits that select it (all of them; one bit but for event E9h), its kind,
and the revision from which it is defined (R79, R82). -/
structure Lane where
  mask : BitVec 8
  kind : Kind
  since : Rev
  deriving DecidableEq, Repr

/-- What an event counts: one thing without a UNIT_MASK table; every unhalted clock (event 76h, R242); the selected
rows of its table (R122); or the request paths of event E9h (R287). -/
inductive Source where
  | noTable (k : Kind)
  | everyClock
  | table (rows : List Lane)
  | requestFlow (paths : List Lane)
  deriving DecidableEq, Repr

/-- An event of the catalogue: its EVENT_SELECT code (R77), the revision from which the code is defined (R297) and what
it counts. -/
structure Event where
  code : BitVec 8
  since : Rev
  source : Source
  deriving DecidableEq, Repr

/-- A reported number as a number of occurrences: 0 to 3, but 0 or 1 for a condition (R121, R141). -/
def Kind.bound (k : Kind) (n : BitVec 2) : Nat :=
  match k with
  | .occurrence => n.toNat
  | .cycle => if n = 0 then 0 else 1

/-- UNIT_MASK `um` selects the row. -/
def Lane.selected (l : Lane) (um : BitVec 8) : Bool :=
  um &&& l.mask == l.mask

/-- The occurrences of the selected rows added together; a row whose report is missing from the list adds 0 (R122). -/
def laneSum (um : BitVec 8) : List Lane → List (BitVec 2) → Nat
  | [], _ => 0
  | l :: ls, ns => (if l.selected um then l.kind.bound (ns.headD 0) else 0) + laneSum um ls ns.tail

/-- `occ` of the clock, 0 to 3 (R121, R122, R141, R242, R287; a sum is clipped to 3, `93_implementation_defined.md` U25).
-/
def Event.occ (e : Event) (um : BitVec 8) (inp : EventInput) : Nat :=
  match e.source with
  | .noTable k => k.bound inp.count
  | .everyClock => 1
  | .table rows => min 3 (laneSum um rows inp.lanes)
  | .requestFlow paths => min 3 (laneSum um paths inp.lanes)

/-- The UNIT_MASK bits that the rows define in a part of revision `rev` (R79). -/
def definedBits (rev : Rev) (rows : List Lane) : BitVec 8 :=
  rows.foldr (fun l m => if l.since.le rev then l.mask ||| m else m) 0

/-- R137 (b): a UNIT_MASK bit is set that the event's table does not define or that the part does not implement
(`listed`, parameter `EVENTS`), or event E9h has no request type, no source or no target selected (R287), or selects no
supported path (`93_implementation_defined.md` U7). An event without a table ignores the field (R122). -/
def Event.unitMaskUndefined (e : Event) (rev : Rev) (listed um : BitVec 8) : Bool :=
  match e.source with
  | .noTable _ => false
  | .everyClock => false
  | .table rows => um &&& ~~~(definedBits rev rows &&& listed) != 0
  | .requestFlow paths =>
    (um &&& ~~~(definedBits rev paths &&& listed) != 0) || (um &&& 0x0F == 0) || (um &&& 0xC0 == 0) ||
      (um &&& 0x30 == 0) || !(paths.any (fun l => l.selected um))

/-- R137 (a), (b) with the parameters `REV` and `EVENTS`: the part does not list the event, its revision lacks the code,
or the UNIT_MASK is not defined on it (R8, R297, U8, U9). -/
def Event.undefinedOn (e : Event) (rev : Rev) (listed : Option (BitVec 8)) (um : BitVec 8) : Bool :=
  match listed with
  | none => true
  | some bits => !(e.since.le rev) || e.unitMaskUndefined rev bits um

/-- R200, event 00h "Dispatched FPU Operations" (speculative): The number of operations (uops) dispatched to the FPU
execution pipelines. -/
def event00h : Event :=
  ⟨0x00, .beforeD, .table [
    ⟨0x01, .occurrence, .beforeD⟩,  -- Add pipe ops
    ⟨0x02, .occurrence, .beforeD⟩,  -- Multiply pipe ops
    ⟨0x04, .occurrence, .beforeD⟩,  -- Store pipe ops
    ⟨0x08, .occurrence, .beforeD⟩,  -- Add pipe load ops
    ⟨0x10, .occurrence, .beforeD⟩,  -- Multiply pipe load ops
    ⟨0x20, .occurrence, .beforeD⟩]⟩  -- Store pipe load ops

/-- R201, event 01h "Cycles with no FPU Ops Retired" (retire-time): The number of cycles in which no FPU operations were
retired. -/
def event01h : Event :=
  ⟨0x01, .beforeD, .noTable .cycle⟩

/-- R202, event 02h "Dispatched Fast Flag FPU Operations" (speculative): The number of FPU operations that use the fast
flag interface -/
def event02h : Event :=
  ⟨0x02, .beforeD, .noTable .occurrence⟩

/-- R203, event 20h "Segment Register Loads": The number of segment register loads performed. -/
def event20h : Event :=
  ⟨0x20, .beforeD, .table [
    ⟨0x01, .occurrence, .beforeD⟩,  -- ES
    ⟨0x02, .occurrence, .beforeD⟩,  -- CS
    ⟨0x04, .occurrence, .beforeD⟩,  -- SS
    ⟨0x08, .occurrence, .beforeD⟩,  -- DS
    ⟨0x10, .occurrence, .beforeD⟩,  -- FS
    ⟨0x20, .occurrence, .beforeD⟩,  -- GS
    ⟨0x40, .occurrence, .beforeD⟩]⟩  -- HS

/-- R204, event 21h "Pipeline Restart Due to Self-Modifying Code": The number of pipeline restarts that were caused by
self-modifying code (a store that hits any instruction that's been fetched for execution beyond the instruction ... -/
def event21h : Event :=
  ⟨0x21, .beforeD, .noTable .occurrence⟩

/-- R205, event 22h "Pipeline Restart Due to Probe Hit": The number of pipeline restarts caused by an invalidating probe
hitting on a speculative out-of-order load. -/
def event22h : Event :=
  ⟨0x22, .beforeD, .noTable .occurrence⟩

/-- R206, event 23h "LS Buffer 2 Full": The number of cycles that the LS2 buffer is full. -/
def event23h : Event :=
  ⟨0x23, .beforeD, .noTable .cycle⟩

/-- R207, event 24h "Locked Operations": This event covers locked operations performed and their execution time. -/
def event24h : Event :=
  ⟨0x24, .beforeD, .table [
    ⟨0x01, .occurrence, .beforeD⟩,  -- The number of locked instructions executed
    ⟨0x02, .cycle, .beforeD⟩,  -- The number of cycles spent in speculative phase
    ⟨0x04, .cycle, .beforeD⟩]⟩  -- The number of cycles spent in non-speculative phase (including cache miss penalty)

/-- R208, event 65h "Memory Requests by Type": These events reflect accesses to uncacheable (UC) or write-combining (WC)
memory regions (as defined by MTRR or PAT settings) and Streaming Store activity to WB memory. -/
def event65h : Event :=
  ⟨0x65, .beforeD, .table [
    ⟨0x01, .occurrence, .beforeD⟩,  -- Requests to non-cacheable (UC) memory
    ⟨0x02, .occurrence, .beforeD⟩,  -- Requests to write-combining (WC) memory or WC buffer flushes to WB memory
    ⟨0x80, .occurrence, .beforeD⟩]⟩  -- Streaming store (SS) requests

/-- R209, event 40h "Data Cache Accesses" (speculative): The number of accesses to the data cache for load and store
references. -/
def event40h : Event :=
  ⟨0x40, .beforeD, .noTable .occurrence⟩

/-- R210, event 41h "Data Cache Misses" (speculative): The number of data cache references which missed in the data
cache. -/
def event41h : Event :=
  ⟨0x41, .beforeD, .noTable .occurrence⟩

/-- R211, event 42h "Data Cache Refills from L2 or System" (speculative): The number of data cache refills satisfied
from the L2 cache (and/or the system), per the UNIT_MASK. -/
def event42h : Event :=
  ⟨0x42, .beforeD, .table [
    ⟨0x01, .occurrence, .beforeD⟩,  -- Refill from System
    ⟨0x02, .occurrence, .beforeD⟩,  -- Shared-state line from L2
    ⟨0x04, .occurrence, .beforeD⟩,  -- Exclusive-state line from L2
    ⟨0x08, .occurrence, .beforeD⟩,  -- Owned-state line from L2
    ⟨0x10, .occurrence, .beforeD⟩]⟩  -- Modified-state line from L2

/-- R212, event 43h "Data Cache Refills from System" (speculative): The number of L1 cache refills satisfied from the
system (system memory or another cache), as opposed to the L2. -/
def event43h : Event :=
  ⟨0x43, .beforeD, .table [
    ⟨0x01, .occurrence, .beforeD⟩,  -- Invalid
    ⟨0x02, .occurrence, .beforeD⟩,  -- Shared
    ⟨0x04, .occurrence, .beforeD⟩,  -- Exclusive
    ⟨0x08, .occurrence, .beforeD⟩,  -- Owned
    ⟨0x10, .occurrence, .beforeD⟩]⟩  -- Modified

/-- R213, event 44h "Data Cache Lines Evicted" (speculative): The number of L1 data cache lines written to the L2 cache
or system memory, having been displaced by L1 refills. -/
def event44h : Event :=
  ⟨0x44, .beforeD, .table [
    ⟨0x01, .occurrence, .beforeD⟩,  -- Invalid
    ⟨0x02, .occurrence, .beforeD⟩,  -- Shared
    ⟨0x04, .occurrence, .beforeD⟩,  -- Exclusive
    ⟨0x08, .occurrence, .beforeD⟩,  -- Owned
    ⟨0x10, .occurrence, .beforeD⟩]⟩  -- Modified

/-- R214, event 45h "L1 DTLB Miss and L2 DLTB Hit" (speculative): The number of data cache accesses that miss in the L1
DTLB and hit in the L2 DTLB. -/
def event45h : Event :=
  ⟨0x45, .beforeD, .noTable .occurrence⟩

/-- R215, event 46h "L1 DTLB and L2 DLTB Miss" (speculative): The number of data cache accesses that miss in both the L1
and L2 DTLBs. -/
def event46h : Event :=
  ⟨0x46, .beforeD, .noTable .occurrence⟩

/-- R216, event 47h "Misaligned Accesses" (speculative): The number of data cache accesses that are misaligned. -/
def event47h : Event :=
  ⟨0x47, .beforeD, .noTable .occurrence⟩

/-- R217, event 48h "Microarchitectural Late Cancel of an Access". -/
def event48h : Event :=
  ⟨0x48, .beforeD, .noTable .occurrence⟩

/-- R218, event 49h "Microarchitectural Early Cancel of an Access". -/
def event49h : Event :=
  ⟨0x49, .beforeD, .noTable .occurrence⟩

/-- R219, event 4Ah "Single-bit ECC Errors Recorded by Scrubber": The number of single-bit errors corrected by either of
the error detection/correction mechanisms in the data cache. -/
def event4Ah : Event :=
  ⟨0x4A, .beforeD, .table [
    ⟨0x01, .occurrence, .beforeD⟩,  -- Scrubber error
    ⟨0x02, .occurrence, .beforeD⟩]⟩  -- Piggyback scrubber errors

/-- R220, event 4Bh "Prefetch Instructions Dispatched" (speculative): The number of prefetch instructions dispatched by
the decoder. -/
def event4Bh : Event :=
  ⟨0x4B, .beforeD, .table [
    ⟨0x01, .occurrence, .beforeD⟩,  -- Load (Prefetch, PrefetchT0/T1/T2)
    ⟨0x02, .occurrence, .beforeD⟩,  -- Store (PrefetchW)
    ⟨0x04, .occurrence, .beforeD⟩]⟩  -- NTA (PrefetchNTA)

/-- R221, event 4Ch "DCACHE Misses by Locked Instructions": The number of data cache misses incurred by locked
instructions. -/
def event4Ch : Event :=
  ⟨0x4C, .beforeD, .table [
    ⟨0x02, .occurrence, .beforeD⟩]⟩  -- Data cache misses by locked instructions

/-- R222, event 67h "Data Prefetcher": These events reflect requests made by the data prefetcher. -/
def event67h : Event :=
  ⟨0x67, .beforeD, .table [
    ⟨0x01, .occurrence, .beforeD⟩,  -- Cancelled prefetches
    ⟨0x02, .occurrence, .beforeD⟩]⟩  -- Prefetch attempts

/-- R223, event 6Ch "System Read Responses by Coherency State": The number of responses from the system for cache refill
requests. -/
def event6Ch : Event :=
  ⟨0x6C, .beforeD, .table [
    ⟨0x01, .occurrence, .beforeD⟩,  -- Exclusive
    ⟨0x02, .occurrence, .beforeD⟩,  -- Modified
    ⟨0x04, .occurrence, .beforeD⟩]⟩  -- Shared

/-- R224, event 6Dh "Quadwords Written to System": The number of quadword (8-byte) data transfers from the processor to
the system. -/
def event6Dh : Event :=
  ⟨0x6D, .beforeD, .table [
    ⟨0x01, .occurrence, .beforeD⟩]⟩  -- Quadword write transfer

/-- R225, event 7Dh "Requests to L2 Cache" (none stated; the text says it includes retries): The number of requests to
the L2 cache for Icache or Dcache fills, or page table lookups for the TLB. -/
def event7Dh : Event :=
  ⟨0x7D, .beforeD, .table [
    ⟨0x01, .occurrence, .beforeD⟩,  -- IC fill
    ⟨0x02, .occurrence, .beforeD⟩,  -- DC fill
    ⟨0x04, .occurrence, .beforeD⟩,  -- TLB fill (page table walks)
    ⟨0x08, .occurrence, .beforeD⟩,  -- Tag snoop request
    ⟨0x10, .occurrence, .beforeD⟩]⟩  -- Cancelled request

/-- R226, event 7Eh "L2 Cache Misses" ("may include some amount of speculative activity"): The number of requests that
miss in the L2 cache. -/
def event7Eh : Event :=
  ⟨0x7E, .beforeD, .table [
    ⟨0x01, .occurrence, .beforeD⟩,  -- IC fill
    ⟨0x02, .occurrence, .beforeD⟩,  -- DC fill (includes possible replays, whereas event 41h does not)
    ⟨0x04, .occurrence, .beforeD⟩]⟩  -- TLB page table walk

/-- R227, event 7Fh "L2 Fill/Writeback": The number of lines written into the L2 cache due to victim writebacks from the
Icache or Dcache, TLB page table walks and the hardware data prefetcher (UNIT_MASK bit ... -/
def event7Fh : Event :=
  ⟨0x7F, .beforeD, .table [
    ⟨0x01, .occurrence, .beforeD⟩,  -- L2 fills (victims from L1 caches, TLB page table walks and data prefetches)
    ⟨0x02, .occurrence, .beforeD⟩]⟩  -- writebacks of dirty lines from the L2 to the system (restored from the text; row missing from the table)

/-- R230, event 80h "Instruction Cache Fetches" (speculative): The number of instruction cache accesses by the
instruction fetcher. -/
def event80h : Event :=
  ⟨0x80, .beforeD, .noTable .occurrence⟩

/-- R231, event 81h "Instruction Cache Misses" (speculative): The number of instruction fetches that miss in the
instruction cache. -/
def event81h : Event :=
  ⟨0x81, .beforeD, .noTable .occurrence⟩

/-- R232, event 82h "Instruction Cache Refills from L2" (speculative): The number of instruction cache refills satisfied
from the L2 cache. -/
def event82h : Event :=
  ⟨0x82, .beforeD, .noTable .occurrence⟩

/-- R233, event 83h "Instruction Cache Refills from System" (speculative): The number of instruction cache refills from
system memory (or another cache). -/
def event83h : Event :=
  ⟨0x83, .beforeD, .noTable .occurrence⟩

/-- R234, event 84h "L1 ITLB Miss, L2 ITLB Hit" (speculative): The number of instruction fetches that miss in the L1
ITLB but hit in the L2 ITLB. -/
def event84h : Event :=
  ⟨0x84, .beforeD, .noTable .occurrence⟩

/-- R235, event 85h "L1 ITLB Miss, L2 ITLB Miss" (speculative): The number of instruction fetches that miss in both the
L1 and L2 ITLBs. -/
def event85h : Event :=
  ⟨0x85, .beforeD, .noTable .occurrence⟩

/-- R236, event 86h "Pipeline Restart Due to Instruction Stream Probe" (speculative): The number of pipeline restarts
caused by invalidating probes that hit on the instruction stream currently being executed. -/
def event86h : Event :=
  ⟨0x86, .beforeD, .noTable .occurrence⟩

/-- R237, event 87h "Instruction Fetch Stall" (speculative): The number of cycles the instruction fetcher is stalled. -/
def event87h : Event :=
  ⟨0x87, .beforeD, .noTable .cycle⟩

/-- R238, event 88h "Return Stack Hits" (speculative): The number of near return instructions (RET or RET Iw) that get
their return address from the return address stack (i.e. -/
def event88h : Event :=
  ⟨0x88, .beforeD, .noTable .occurrence⟩

/-- R239, event 89h "Return Stack Overflows" (speculative): The number of (near) call instructions that cause the return
address stack to overflow. -/
def event89h : Event :=
  ⟨0x89, .beforeD, .noTable .occurrence⟩

/-- R240, event 26h "Retired CLFLUSH Instructions" (retire-time): The number of CLFLUSH instructions retired. -/
def event26h : Event :=
  ⟨0x26, .beforeD, .noTable .occurrence⟩

/-- R241, event 27h "Retired CPUID Instructions" (retire-time): The number of CPUID instructions retired. -/
def event27h : Event :=
  ⟨0x27, .beforeD, .noTable .occurrence⟩

/-- R242, event 76h "CPU Clocks not Halted": The number of clocks that the CPU is not in a halted state (due to STPCLK
or a HALT instruction). It holds in every clock in which the counting agent steps. -/
def event76h : Event :=
  ⟨0x76, .beforeD, .everyClock⟩

/-- R243, event C0h "Retired Instructions" (retire-time): The number of instructions retired (execution completed and
architectural state updated). -/
def eventC0h : Event :=
  ⟨0xC0, .beforeD, .noTable .occurrence⟩

/-- R244, event C1h "Retired uops" (retire-time): The number of micro-ops retired. -/
def eventC1h : Event :=
  ⟨0xC1, .beforeD, .noTable .occurrence⟩

/-- R245, event C2h "Retired Branch Instructions" (retire-time): The number of branch instructions retired. -/
def eventC2h : Event :=
  ⟨0xC2, .beforeD, .noTable .occurrence⟩

/-- R246, event C3h "Retired Mispredicted Branch Instructions" (retire-time): The number of branch instructions retired,
of any type, that were not correctly predicted. -/
def eventC3h : Event :=
  ⟨0xC3, .beforeD, .noTable .occurrence⟩

/-- R247, event C4h "Retired Taken Branch Instructions" (retire-time): The number of taken branches that were retired. -/
def eventC4h : Event :=
  ⟨0xC4, .beforeD, .noTable .occurrence⟩

/-- R248, event C5h "Retired Taken Branch Instructions Mispredicted" (retire-time): The number of retired taken branch
instructions that were mispredicted. -/
def eventC5h : Event :=
  ⟨0xC5, .beforeD, .noTable .occurrence⟩

/-- R249, event C6h "Retired Far Control Transfers" (retire-time): The number of far control transfers retired including
far call/jump/return, IRET, SYSCALL and SYSRET, plus exceptions and interrupts. -/
def eventC6h : Event :=
  ⟨0xC6, .beforeD, .noTable .occurrence⟩

/-- R250, event C7h "Retired Branch Resyncs" (retire-time): The number of resync branches. -/
def eventC7h : Event :=
  ⟨0xC7, .beforeD, .noTable .occurrence⟩

/-- R251, event C8h "Retired Near Returns" (retire-time): The number of near return instructions (RET or RET Iw)
retired. -/
def eventC8h : Event :=
  ⟨0xC8, .beforeD, .noTable .occurrence⟩

/-- R252, event C9h "Retired Near Returns Mispredicted" (retire-time): The number of near returns retired that were not
correctly predicted by the return address predictor. -/
def eventC9h : Event :=
  ⟨0xC9, .beforeD, .noTable .occurrence⟩

/-- R253, event CAh "Retired Indirect Branches Mispredicted" (retire-time): The number of indirect branch instructions
retired where the target address was not correctly predicted. -/
def eventCAh : Event :=
  ⟨0xCA, .beforeD, .noTable .occurrence⟩

/-- R254, event CBh "Retired MMX/FP Instructions" (retire-time): The number of MMX, SSE or X87 instructions retired. -/
def eventCBh : Event :=
  ⟨0xCB, .beforeD, .table [
    ⟨0x01, .occurrence, .beforeD⟩,  -- x87 instructions
    ⟨0x02, .occurrence, .beforeD⟩,  -- MMX™ and 3DNow!™ instructions
    ⟨0x04, .occurrence, .beforeD⟩,  -- Packed SSE and SSE2 instructions
    ⟨0x08, .occurrence, .beforeD⟩]⟩  -- Scalar SSE and SSE2 instructions

/-- R255, event CCh "Retired Fastpath Double op Instructions" (retire-time). -/
def eventCCh : Event :=
  ⟨0xCC, .beforeD, .table [
    ⟨0x01, .occurrence, .beforeD⟩,  -- With low op in position 0
    ⟨0x02, .occurrence, .beforeD⟩,  -- With low op in position 1
    ⟨0x04, .occurrence, .beforeD⟩]⟩  -- With low op in position 2

/-- R256, event CDh "Interrupts-Masked Cycles": The number of processor cycles where interrupts are masked (EFLAGS.IF =
0). -/
def eventCDh : Event :=
  ⟨0xCD, .beforeD, .noTable .cycle⟩

/-- R257, event CEh "Interrupts-Masked Cycles with Interrupt Pending": The number of processor cycles where interrupts
are masked (EFLAGS.IF = 0) and an interrupt is pending. -/
def eventCEh : Event :=
  ⟨0xCE, .beforeD, .noTable .cycle⟩

/-- R258, event CFh "Interrupts Taken": The number of hardware interrupts taken. -/
def eventCFh : Event :=
  ⟨0xCF, .beforeD, .noTable .occurrence⟩

/-- R259, event D0h "Decoder Empty": The number of processor cycles where the decoder has nothing to dispatch (typically
waiting on an instruction fetch that missed the Icache or for the target fetch ... -/
def eventD0h : Event :=
  ⟨0xD0, .beforeD, .noTable .cycle⟩

/-- R260, event D1h "Dispatch Stalls": The number of processor cycles where the decoder is stalled for any reason (has
one or more instructions ready but can't dispatch them due to resource limitations in ... -/
def eventD1h : Event :=
  ⟨0xD1, .beforeD, .noTable .cycle⟩

/-- R261, event D2h "Dispatch Stall for Branch Abort to Retire": The number of processor cycles the decoder is stalled
waiting for the pipe to drain after a mispredicted branch. -/
def eventD2h : Event :=
  ⟨0xD2, .beforeD, .noTable .cycle⟩

/-- R262, event D3h "Dispatch Stall for Serialization": The number of processor cycles the decoder is stalled due to a
serializing operation, which waits for the execution pipeline to drain. -/
def eventD3h : Event :=
  ⟨0xD3, .beforeD, .noTable .cycle⟩

/-- R263, event D4h "Dispatch Stall for Segment Load": The number of processor cycles the decoder is stalled due to a
segment load instruction being encountered while execution of a previous segment load operation is ... -/
def eventD4h : Event :=
  ⟨0xD4, .beforeD, .noTable .cycle⟩

/-- R264, event D5h "Dispatch Stall for Reorder Buffer Full": The number of processor cycles the decoder is stalled
because the reorder buffer is full. -/
def eventD5h : Event :=
  ⟨0xD5, .beforeD, .noTable .cycle⟩

/-- R265, event D6h "Dispatch Stall for Reservation Station Full": The number of processor cycles the decoder is stalled
because a required integer unit reservation stations is full. -/
def eventD6h : Event :=
  ⟨0xD6, .beforeD, .noTable .cycle⟩

/-- R266, event D7h "Dispatch Stall for FPU Full": The number of processor cycles the decoder is stalled because the
scheduler for the Floating Point Unit is full. -/
def eventD7h : Event :=
  ⟨0xD7, .beforeD, .noTable .cycle⟩

/-- R267, event D8h "Dispatch Stall for LS Full": The number of processor cycles the decoder is stalled because the
Load/Store Unit is full. -/
def eventD8h : Event :=
  ⟨0xD8, .beforeD, .noTable .cycle⟩

/-- R268, event D9h "Dispatch Stall Waiting for All Quiet": The number of processor cycles the decoder is stalled
waiting for all outstanding requests to the system to be resolved. -/
def eventD9h : Event :=
  ⟨0xD9, .beforeD, .noTable .cycle⟩

/-- R269, event DAh "Dispatch Stall for Far Transfer or Resync to Retire": The number of processor cycles the decoder is
stalled waiting for the execution pipeline to drain before dispatching the target instructions of a far control
transfer ... -/
def eventDAh : Event :=
  ⟨0xDA, .beforeD, .noTable .cycle⟩

/-- R270, event DBh "FPU Exceptions": The number of floating point unit exceptions for microcode assists. -/
def eventDBh : Event :=
  ⟨0xDB, .beforeD, .table [
    ⟨0x01, .occurrence, .beforeD⟩,  -- x87 reclass microfaults
    ⟨0x02, .occurrence, .beforeD⟩,  -- SSE retype microfaults
    ⟨0x04, .occurrence, .beforeD⟩,  -- SSE reclass microfaults
    ⟨0x08, .occurrence, .beforeD⟩]⟩  -- SSE and x87 microtraps

/-- R271, event DCh "DR0 Breakpoint Matches": The number of matches on the address in breakpoint register DR0, per the
breakpoint type specified in DR7. -/
def eventDCh : Event :=
  ⟨0xDC, .beforeD, .noTable .occurrence⟩

/-- R272, event DDh "DR1 Breakpoint Matches": The number of matches on the address in breakpoint register DR1. -/
def eventDDh : Event :=
  ⟨0xDD, .beforeD, .noTable .occurrence⟩

/-- R273, event DEh "DR2 Breakpoint Matches": The number of matches on the address in breakpoint register DR2. -/
def eventDEh : Event :=
  ⟨0xDE, .beforeD, .noTable .occurrence⟩

/-- R274, event DFh "DR3 Breakpoint Matches": The number of matches on the address in breakpoint register DR3. -/
def eventDFh : Event :=
  ⟨0xDF, .beforeD, .noTable .occurrence⟩

/-- R281, event E0h "DRAM Accesses": The number of memory accesses performed by the local DRAM controller. -/
def eventE0h : Event :=
  ⟨0xE0, .beforeD, .table [
    ⟨0x01, .occurrence, .beforeD⟩,  -- Page hit
    ⟨0x02, .occurrence, .beforeD⟩,  -- Page Miss
    ⟨0x04, .occurrence, .beforeD⟩]⟩  -- Page Conflict

/-- R282, event E1h "Memory Controller Page Table Overflows": The number of page table overflows in the local DRAM
controller. -/
def eventE1h : Event :=
  ⟨0xE1, .beforeD, .noTable .occurrence⟩

/-- R283, event E3h "Memory Controller Turnarounds": The number of turnarounds on the local DRAM data bus. -/
def eventE3h : Event :=
  ⟨0xE3, .beforeD, .table [
    ⟨0x01, .occurrence, .beforeD⟩,  -- DIMM (chip select) turnaround
    ⟨0x02, .occurrence, .beforeD⟩,  -- Read to write turnaround
    ⟨0x04, .occurrence, .beforeD⟩]⟩  -- Write to read turnaround

/-- R284, event E4h "Memory Controller Bypass Counter Saturation". -/
def eventE4h : Event :=
  ⟨0xE4, .beforeD, .table [
    ⟨0x01, .occurrence, .beforeD⟩,  -- Memory controller high priority bypass
    ⟨0x02, .occurrence, .beforeD⟩,  -- Memory controller low priority bypass
    ⟨0x04, .occurrence, .beforeD⟩,  -- DRAM controller interface bypass
    ⟨0x08, .occurrence, .beforeD⟩]⟩  -- DRAM controller queue bypass

/-- R285, event E5h "Sized Blocks": Sized Read/Write activity: The Sized Read/Write events reflect 32- or 64-byte
transfers (as opposed to other sizes which could be anywhere between 1 and 64 bytes), ... -/
def eventE5h : Event :=
  ⟨0xE5, .d, .table [
    ⟨0x04, .occurrence, .beforeD⟩,  -- 32-byte Sized Writes (Revision D and later revisions)
    ⟨0x08, .occurrence, .beforeD⟩,  -- 64-byte Sized Writes (Revision D and later revisions)
    ⟨0x10, .occurrence, .beforeD⟩,  -- 32-byte Sized Reads (Revision D and later revisions)
    ⟨0x20, .occurrence, .beforeD⟩]⟩  -- 64-byte Sized Reads (Revision D and later revisions)

/-- R286, event E8h "ECC Errors". -/
def eventE8h : Event :=
  ⟨0xE8, .eOrLater, .table [
    ⟨0x80, .occurrence, .beforeD⟩]⟩  -- Number of correctable and Uncorrectable DRAM ECC errors (Revision E)

/-- Paths in the order of R287's table, local to local, local to remote, remote to local. R287, event E9h "CPU/IO Requests to Memory/IO": These events reflect request flow between units and nodes, as
selected by the UNIT_MASK. -/
def eventE9h : Event :=
  ⟨0xE9, .eOrLater, .requestFlow [
    ⟨0xA8, .occurrence, .beforeD⟩,
    ⟨0xA4, .occurrence, .beforeD⟩,
    ⟨0xA2, .occurrence, .beforeD⟩,
    ⟨0xA1, .occurrence, .beforeD⟩,
    ⟨0x98, .occurrence, .beforeD⟩,
    ⟨0x94, .occurrence, .beforeD⟩,
    ⟨0x92, .occurrence, .beforeD⟩,
    ⟨0x91, .occurrence, .beforeD⟩,
    ⟨0x64, .occurrence, .beforeD⟩,
    ⟨0x61, .occurrence, .beforeD⟩]⟩

/-- R288, event EAh "Cache Block Commands": The number of requests made to the system for cache line transfers or
coherency state changes, by request type. -/
def eventEAh : Event :=
  ⟨0xEA, .eOrLater, .table [
    ⟨0x01, .occurrence, .beforeD⟩,  -- Victim Block (Writeback)
    ⟨0x04, .occurrence, .beforeD⟩,  -- Read Block (Dcache load miss refill)
    ⟨0x08, .occurrence, .beforeD⟩,  -- Read Block Shared (Icache refill)
    ⟨0x10, .occurrence, .beforeD⟩,  -- Read Block Modified (Dcache store miss refill)
    ⟨0x20, .occurrence, .beforeD⟩]⟩  -- Change to Dirty (first store to clean block already in cache)

/-- R289, event EBh "Sized Commands": The number of Sized Read/Write commands handled by the System Request Interface
(local processor and hostbridge interface to the system). -/
def eventEBh : Event :=
  ⟨0xEB, .beforeD, .table [
    ⟨0x01, .occurrence, .beforeD⟩,  -- NonPosted SzWr Byte (1-32 bytes) [typical usage: Legacy or mapped I/O, typically 1–4 bytes]
    ⟨0x02, .occurrence, .beforeD⟩,  -- NonPosted SzWr Dword (1-16 dwords) [typical usage: Legacy or mapped I/O, typically 1 Dword]
    ⟨0x04, .occurrence, .beforeD⟩,  -- Posted SzWr Byte (1-32 bytes) [typical usage: Sub-cache-line DMA writes, size varies; also flushes of partially-filled Write Combining buffer]
    ⟨0x08, .occurrence, .beforeD⟩,  -- Posted SzWr Dword (1-16 dwords) [typical usage: Block-oriented DMA writes, often cache-line sized; also processor Write Combining buffer flushes]
    ⟨0x10, .occurrence, .beforeD⟩,  -- SzRd Byte (4 bytes) [typical usage: Legacy or mapped I/O]
    ⟨0x20, .occurrence, .beforeD⟩,  -- SzRd Dword (1-16 dwords) [typical usage: Block-oriented DMA reads, typically cacheline size]
    ⟨0x40, .occurrence, .beforeD⟩]⟩  -- RdModWr

/-- R290, event ECh "Probe Responses and Upstream Requests": This covers two unrelated sets of events — cache probe
results and requests received by the Hostbridge from devices on non-coherent links. -/
def eventECh : Event :=
  ⟨0xEC, .beforeD, .table [
    ⟨0x01, .occurrence, .beforeD⟩,  -- Probe miss
    ⟨0x02, .occurrence, .beforeD⟩,  -- Probe hit clean
    ⟨0x04, .occurrence, .beforeD⟩,  -- Probe hit dirty without memory cancel (probed by Sized Write or Change2Dirty)
    ⟨0x08, .occurrence, .beforeD⟩,  -- Probe hit dirty with memory cancel (probed by DMA read or cache refill request)
    ⟨0x10, .occurrence, .beforeD⟩,  -- Upstream display refresh reads
    ⟨0x20, .occurrence, .beforeD⟩,  -- Upstream non-display refresh reads
    ⟨0x40, .occurrence, .d⟩]⟩  -- Upstream writes (Revision D and later revisions)

/-- R291, event EEh "GART Events": These events reflect GART activity, and in particular allow one to calculate the GART
TLB miss ratio as GART_miss_count divided by GART_aperture_hit_count. -/
def eventEEh : Event :=
  ⟨0xEE, .beforeD, .table [
    ⟨0x01, .occurrence, .beforeD⟩,  -- GART aperture hit on access from CPU
    ⟨0x02, .occurrence, .beforeD⟩,  -- GART aperture hit on access from I/O
    ⟨0x04, .occurrence, .beforeD⟩]⟩  -- GART miss

/-- R292, event F6h "HyperTransport Link 0 Transmit Bandwidth": The number of Dwords transmitted (or unused, in the case
of Nops) on the outgoing side of the HyperTransport links. -/
def eventF6h : Event :=
  ⟨0xF6, .beforeD, .table [
    ⟨0x01, .occurrence, .beforeD⟩,  -- Command Dword sent
    ⟨0x02, .occurrence, .beforeD⟩,  -- Data Dword sent
    ⟨0x04, .occurrence, .beforeD⟩,  -- Buffer release Dword sent
    ⟨0x08, .occurrence, .beforeD⟩]⟩  -- Nop Dword sent (idle)

/-- R293, event F7h "HyperTransport Link 1 Transmit Bandwidth". -/
def eventF7h : Event :=
  ⟨0xF7, .beforeD, .table [
    ⟨0x01, .occurrence, .beforeD⟩,  -- Command Dword sent
    ⟨0x02, .occurrence, .beforeD⟩,  -- Data Dword sent
    ⟨0x04, .occurrence, .beforeD⟩,  -- Buffer release Dword sent
    ⟨0x08, .occurrence, .beforeD⟩]⟩  -- Nop Dword sent (idle)

/-- R294, event F8h "HyperTransport Link 2 Transmit Bandwidth". -/
def eventF8h : Event :=
  ⟨0xF8, .beforeD, .table [
    ⟨0x01, .occurrence, .beforeD⟩,  -- Command Dword sent
    ⟨0x02, .occurrence, .beforeD⟩,  -- Data Dword sent
    ⟨0x04, .occurrence, .beforeD⟩,  -- Buffer release Dword sent
    ⟨0x08, .occurrence, .beforeD⟩]⟩  -- Nop Dword sent (idle)

/-- The catalogue entry of an event's control word; none for the three register-access instructions. -/
def eventOf : Instr → Option Event
  | .wrmsr => none
  | .rdmsr => none
  | .rdpmc => none
  | .evt00h _ => some event00h
  | .evt01h _ => some event01h
  | .evt02h _ => some event02h
  | .evt20h _ => some event20h
  | .evt21h _ => some event21h
  | .evt22h _ => some event22h
  | .evt23h _ => some event23h
  | .evt24h _ => some event24h
  | .evt65h _ => some event65h
  | .evt40h _ => some event40h
  | .evt41h _ => some event41h
  | .evt42h _ => some event42h
  | .evt43h _ => some event43h
  | .evt44h _ => some event44h
  | .evt45h _ => some event45h
  | .evt46h _ => some event46h
  | .evt47h _ => some event47h
  | .evt48h _ => some event48h
  | .evt49h _ => some event49h
  | .evt4Ah _ => some event4Ah
  | .evt4Bh _ => some event4Bh
  | .evt4Ch _ => some event4Ch
  | .evt67h _ => some event67h
  | .evt6Ch _ => some event6Ch
  | .evt6Dh _ => some event6Dh
  | .evt7Dh _ => some event7Dh
  | .evt7Eh _ => some event7Eh
  | .evt7Fh _ => some event7Fh
  | .evt80h _ => some event80h
  | .evt81h _ => some event81h
  | .evt82h _ => some event82h
  | .evt83h _ => some event83h
  | .evt84h _ => some event84h
  | .evt85h _ => some event85h
  | .evt86h _ => some event86h
  | .evt87h _ => some event87h
  | .evt88h _ => some event88h
  | .evt89h _ => some event89h
  | .evt26h _ => some event26h
  | .evt27h _ => some event27h
  | .evt76h _ => some event76h
  | .evtC0h _ => some eventC0h
  | .evtC1h _ => some eventC1h
  | .evtC2h _ => some eventC2h
  | .evtC3h _ => some eventC3h
  | .evtC4h _ => some eventC4h
  | .evtC5h _ => some eventC5h
  | .evtC6h _ => some eventC6h
  | .evtC7h _ => some eventC7h
  | .evtC8h _ => some eventC8h
  | .evtC9h _ => some eventC9h
  | .evtCAh _ => some eventCAh
  | .evtCBh _ => some eventCBh
  | .evtCCh _ => some eventCCh
  | .evtCDh _ => some eventCDh
  | .evtCEh _ => some eventCEh
  | .evtCFh _ => some eventCFh
  | .evtD0h _ => some eventD0h
  | .evtD1h _ => some eventD1h
  | .evtD2h _ => some eventD2h
  | .evtD3h _ => some eventD3h
  | .evtD4h _ => some eventD4h
  | .evtD5h _ => some eventD5h
  | .evtD6h _ => some eventD6h
  | .evtD7h _ => some eventD7h
  | .evtD8h _ => some eventD8h
  | .evtD9h _ => some eventD9h
  | .evtDAh _ => some eventDAh
  | .evtDBh _ => some eventDBh
  | .evtDCh _ => some eventDCh
  | .evtDDh _ => some eventDDh
  | .evtDEh _ => some eventDEh
  | .evtDFh _ => some eventDFh
  | .evtE0h _ => some eventE0h
  | .evtE1h _ => some eventE1h
  | .evtE3h _ => some eventE3h
  | .evtE4h _ => some eventE4h
  | .evtE5h _ => some eventE5h
  | .evtE8h _ => some eventE8h
  | .evtE9h _ => some eventE9h
  | .evtEAh _ => some eventEAh
  | .evtEBh _ => some eventEBh
  | .evtECh _ => some eventECh
  | .evtEEh _ => some eventEEh
  | .evtF6h _ => some eventF6h
  | .evtF7h _ => some eventF7h
  | .evtF8h _ => some eventF8h

/-- The codes of the Northbridge events (R280). -/
def northbridgeCodes : List (BitVec 8) :=
  [0xE0, 0xE1, 0xE3, 0xE4, 0xE5, 0xE8, 0xE9, 0xEA, 0xEB, 0xEC, 0xEE, 0xF6, 0xF7, 0xF8]

/-- R280: the code selects a Northbridge event. -/
def isNorthbridge (code : BitVec 8) : Bool :=
  northbridgeCodes.contains code

end Sys2Proof.Machine
end

