-- ==== Sys2Proof/Machine/Flags.lean ====
section
/-! DEFINITION. The conditions of one counting step (`41_counting.md` R123 to R134, R137), each a function of the control
word and of what it is compared with. -/

namespace Sys2Proof.Machine

/-- R137 (c): CNT_MASK values 4 to 255 are reserved (R80). -/
def cntMaskReserved (q : Qualifiers) : Bool :=
  decide (4 ≤ q.cntMask.toNat)

/-- R137 (d): INV without a threshold is not defined (D8). -/
def invertUndefined (q : Qualifiers) : Bool :=
  q.cntMask == 0 && q.invert

/-- R137: the configuration is undefined on a part of revision `rev` that lists `listed` for the event's code. `shared` is
case (e), the other core's hold on this counter number; the remaining part of case (a), a code without a definition, has
no event. -/
def undefinedConfig (rev : Rev) (listed : Option (BitVec 8)) (e : Event) (q : Qualifiers) (shared : Bool) : Bool :=
  cntMaskReserved q || invertUndefined q || e.undefinedOn rev listed q.unitMask || shared

/-- R123 to R125: from occurrences to an amount. -/
def threshold (q : Qualifiers) (occ : Nat) : Nat :=
  if q.cntMask = 0 then occ
  else if q.invert then (if occ < q.cntMask.toNat then 1 else 0)
  else (if q.cntMask.toNat ≤ occ then 1 else 0)

/-- The amount of the clock: R122 to R125 on the oracle's report, or the draw where the configuration is undefined
(R135, R137). -/
def amountOf (rev : Rev) (listed : Option (BitVec 8)) (shared : Bool) (draw : BitVec 2) (e : Event) (q : Qualifiers)
    (inp : EventInput) : Nat :=
  if undefinedConfig rev listed e q shared then draw.toNat else threshold q (e.occ q.unitMask inp)

/-- The monitored condition of the clock (R127 `sig`). -/
def signal (amount : Nat) : Bool :=
  amount != 0

/-- R126, R127: the increment before the gate, by level or by rising edge. -/
def candidate (q : Qualifiers) (prev : Bool) (amount : Nat) : Nat :=
  if q.edge then (if signal amount && !prev then 1 else 0) else amount

/-- The privilege level is selected (R129). -/
def modeSelected (q : Qualifiers) (cpl : BitVec 2) : Bool :=
  (cpl == 0 && q.os) || (cpl != 0 && q.usr)

/-- R129: the gate of EN and of the privilege level. -/
def gateOpen (q : Qualifiers) (cpl : BitVec 2) : Bool :=
  q.enable && modeSelected q cpl

/-- The increment applied (R129). -/
def increment (q : Qualifiers) (cpl : BitVec 2) (prev : Bool) (amount : Nat) : Nat :=
  if gateOpen q cpl then candidate q prev amount else 0

/-- R131: the addition carries out of bit 47. -/
def overflows (ctr : Count) (inc : Nat) : Bool :=
  decide (2 ^ 48 ≤ ctr.toNat + inc)

/-- R130: the counter after the addition, modulo 2^48. -/
def counted (ctr : Count) (inc : Nat) : Count :=
  BitVec.ofNat 48 (ctr.toNat + inc)

/-- R133: the overflow requests the APIC interrupt. -/
def requestsInterrupt (q : Qualifiers) (ovf : Bool) : Bool :=
  ovf && q.intEnable

/-- R134: the pin toggles, on overflow with PC = 1, on an increment with PC = 0. -/
def togglesPin (q : Qualifiers) (inc : Nat) (ovf : Bool) : Bool :=
  if q.pinControl then ovf else inc != 0

end Sys2Proof.Machine
end

