-- ==== Sys2Proof/Machine/State.lean ====
section
/-! DEFINITION. The state of the machine as plain data, the state after reset, and the reasons a step can stop. -/

namespace Sys2Proof.Machine

/-- What the counter number `i` of one core holds. -/
structure Counter where
  /-- PerfEvtSel`i` (R24 to R37). -/
  sel : Quad
  /-- CTR of PerfCtr`i`, bits 47-0; bits 63-48 read as zero (R22, R23). -/
  ctr : Count
  /-- The edge detector's memory of the previous counted clock (R38). -/
  prev : Bool
  /-- The level of pin PM`i` (R39). -/
  pin : Bool
  deriving DecidableEq, Repr, Inhabited

/-- What an exception records (R305): its vector, its error code, and the instruction pointer of the instruction that
raised it. -/
structure Trap where
  vector : BitVec 8
  errorCode : BitVec 32
  savedPc : Quad
  deriving DecidableEq, Repr, Inhabited

/-- One core: the three general registers the source names (R44, D28), its program counter (R112), its eight registers
with the hidden bits (R20, R38, R39), the exception it has raised and not yet taken, the last one it took (R305), and
whether its next WRMSR must wait for a counting step (R128, D7). -/
structure Core where
  rax : Quad
  rcx : Quad
  rdx : Quad
  pc : Quad
  counters : Bank Counter
  pendingTrap : Option Trap
  savedTrap : Option Trap
  clockOwed : Bool
  deriving DecidableEq, Repr, Inhabited

/-- Output events (R11, R40, R133, R134): counter `i` of core `c` asks the APIC for the performance-counter interrupt;
the level of pin PM`i` driven by core `c` is inverted. -/
inductive Output where
  | apicPerfInt (c : CoreId) (i : CtrId)
  | togglePM (c : CoreId) (i : CtrId)
  deriving DecidableEq, Repr

/-- Why the machine stops with a fault. -/
inductive Fault where
  /-- Raised by the fetch of an instruction whose deciding byte nothing has placed. Safe: the machine stops. -/
  | fetchAbsent
  deriving DecidableEq, Repr

/-- Why the spec gives a step no meaning. -/
inductive Refusal where
  /-- An instruction of the table without a meaning; no arm of `exec` answers it. Safe. -/
  | notModelled (mnemonic : String)
  /-- RDMSR or WRMSR of an MSR other than the eight (R52, R101, R103, D11). Safe: the machine stops. -/
  | msrOutsideFacility
  /-- WRMSR of a 1 to a reserved bit in a part whose policy gives it no meaning (R105, D3, D4). Safe. -/
  | reservedBitsWritten
  /-- The fetched bytes are an instruction outside the spec (R76, R83, D11). Safe. -/
  | instructionOutsideSpec
  deriving DecidableEq, Repr

/-- The state: both cores; the bytes of the instruction stream; what the environment presents; the counter whose part of
the clock is next; the number of the step; the output events emitted so far, the oldest first (R325); and the events
that the part implements (parameter `EVENTS`, R8, U9; no step changes it; log entry 28). -/
structure State where
  core0 : Core
  core1 : Core
  mem : List Host.Cell
  env : Env
  ctr : CtrId
  tick : Nat
  outputs : List Output
  events : EventList
  deriving DecidableEq, Repr, Inhabited

/-- A counter after reset: disabled and zero (R332 gives the values; PRESUMED, log entry 1). The pin's level is a DESIGN
CHOICE (log entry 2). -/
def Counter.reset : Counter :=
  { sel := 0, ctr := 0, prev := false, pin := false }

/-- A core after reset: pc at the family's reset vector (PRESUMED, log entry 1), general registers zero (DESIGN CHOICE, log
entry 3), nothing raised. -/
def Core.reset : Core where
  rax := 0
  rcx := 0
  rdx := 0
  pc := 0x00000000FFFFFFF0
  counters := ⟨Counter.reset, Counter.reset, Counter.reset, Counter.reset⟩
  pendingTrap := none
  savedTrap := none
  clockOwed := false

/-- The input lines at reset: CPL 0, not halted (R332; PRESUMED, log entry 1), CR4.PCE clear and not in 64-bit mode
(PRESUMED, log entry 1). -/
def CoreEnv.reset : CoreEnv :=
  { cpl := 0, halted := false, rdpmcUserAllowed := false, longMode := false }

/-- What the environment presents first: the instruction agent of core 0 moves, the oracle reports nothing (DESIGN CHOICE,
log entry 4). -/
def Env.reset : Env where
  agent := .instr
  core := .core0
  core0 := CoreEnv.reset
  core1 := CoreEnv.reset
  occ := ⟨⟨0, []⟩, ⟨0, []⟩, ⟨0, []⟩, ⟨0, []⟩⟩

/-- The machine right after reset (R46, R330 to R332), in a part with the default list of events (U9). -/
def State.reset : State where
  core0 := Core.reset
  core1 := Core.reset
  mem := []
  env := Env.reset
  ctr := .c0
  tick := 0
  outputs := []
  events := Config.allEvents

end Sys2Proof.Machine
end

