-- ==== Sys2Proof/Machine/Ops.lean ====
section
/-! DEFINITION. The shared operations: the core and the counter a step acts on, the registers, raising an exception, and
one counter's part of a counting step. -/

namespace Sys2Proof.Machine

/-- Core `c`. -/
def State.core (s : State) : CoreId → Core
  | .core0 => s.core0
  | .core1 => s.core1

/-- The state with core `c` replaced. -/
def State.setCore (s : State) (c : CoreId) (k : Core) : State :=
  match c with
  | .core0 => { s with core0 := k }
  | .core1 => { s with core1 := k }

/-- The core that moves. -/
def State.cur (s : State) : Core :=
  s.core s.env.core

/-- The state with the core that moves replaced. -/
def State.setCur (s : State) (k : Core) : State :=
  s.setCore s.env.core k

/-- The input lines of the core that moves. -/
def State.lines (s : State) : CoreEnv :=
  s.env.lines s.env.core

/-- Counter `i` of a core. -/
def Core.counter (k : Core) (i : CtrId) : Counter :=
  k.counters.get i

/-- The core with counter `i` replaced. -/
def Core.setCounter (k : Core) (i : CtrId) (n : Counter) : Core :=
  { k with counters := k.counters.set i n }

/-! ### General registers (R44, R53, R107) -/

/-- Bits 63-32. -/
def high32 (v : Quad) : Word :=
  v.extractLsb' 32 32

/-- Bits 31-0. -/
def low32 (v : Quad) : Word :=
  v.extractLsb' 0 32

/-- EAX. -/
def Core.eax (k : Core) : Word :=
  low32 k.rax

/-- ECX: in 64-bit mode too only bits 31-0 of RCX are used (D28). -/
def Core.ecx (k : Core) : Word :=
  low32 k.rcx

/-- EDX. -/
def Core.edx (k : Core) : Word :=
  low32 k.rdx

/-- A 64-bit register after its low half is written: in 64-bit mode the upper half is cleared (R107, D28); otherwise it
is left as it was (DEDUCED, log entry 5). -/
def writeLow32 (longMode : Bool) (old : Quad) (v : Word) : Quad :=
  if longMode then 0#32 ++ v else high32 old ++ v

/-- EDX:EAX written with a 64-bit value: EDX bits 63-32, EAX bits 31-0 (R53, R107). -/
def Core.writePair (k : Core) (longMode : Bool) (v : Quad) : Core :=
  { k with rdx := writeLow32 longMode k.rdx (high32 v), rax := writeLow32 longMode k.rax (low32 v) }

/-- The value EDX:EAX (R53, R100). -/
def Core.pair (k : Core) : Quad :=
  k.edx ++ k.eax

/-- The program counter past the instruction: its length is 2 bytes (R112). -/
def Core.pastInstr (k : Core) : Core :=
  { k with pc := k.pc + 2 }

/-! ### The eight registers (R20 to R37, R50) -/

/-- The eight model-specific registers of the facility. -/
inductive MsrReg where
  | evtSel (i : CtrId)
  | ctr (i : CtrId)
  deriving DecidableEq, Repr

/-- The register at an MSR address (R21, R24, R50); none outside the eight (R52). -/
def msrAt (a : Word) : Option MsrReg :=
  match a.toNat with
  | 0xC0010000 => some (.evtSel .c0)
  | 0xC0010001 => some (.evtSel .c1)
  | 0xC0010002 => some (.evtSel .c2)
  | 0xC0010003 => some (.evtSel .c3)
  | 0xC0010004 => some (.ctr .c0)
  | 0xC0010005 => some (.ctr .c1)
  | 0xC0010006 => some (.ctr .c2)
  | 0xC0010007 => some (.ctr .c3)
  | _ => none

/-- The counter that an RDPMC index names: all 32 bits of ECX are compared (R51, R108, D13). -/
def pmcAt (n : Word) : Option CtrId :=
  match n.toNat with
  | 0 => some .c0
  | 1 => some .c1
  | 2 => some .c2
  | 3 => some .c3
  | _ => none

/-- The described bits of a PerfEvtSel register (R71, R103). -/
def selMask : Quad :=
  0x00000000FFDFFFFF

/-- The reserved bits of a register (R81). -/
def MsrReg.reserved : MsrReg → Quad
  | .evtSel _ => 0xFFFFFFFF00200000
  | .ctr _ => 0xFFFF000000000000

/-- PerfCtr as it is read: CTR under 16 zero bits (R23). -/
def readCounter (k : Core) (i : CtrId) : Quad :=
  (k.counter i).ctr.setWidth 64

/-- A read of one of the eight registers: reserved bits read as zero (R23, R32, R36, R102). -/
def readMsr (k : Core) : MsrReg → Quad
  | .evtSel i => (k.counter i).sel &&& selMask
  | .ctr i => readCounter k i

/-- A write of one of the eight registers with the reserved bits of the value dropped: only that register changes (R103,
R104, R111). -/
def writeMsr (k : Core) (r : MsrReg) (v : Quad) : Core :=
  match r with
  | .evtSel i => k.setCounter i { k.counter i with sel := v &&& selMask }
  | .ctr i => k.setCounter i { k.counter i with ctr := v.setWidth 48 }

/-! ### Exceptions (R305) -/

/-- The general-protection exception with error code 0 (R305): vector 13, raised by the instruction at `pc`. -/
def generalProtection (pc : Quad) : Trap :=
  { vector := 13, errorCode := 0, savedPc := pc }

/-- An instruction raises #GP(0): it does not complete and changes no register; the exception is handed over with the
instruction pointer of the instruction that raised it (R11 `raise`, R112, R305). -/
def raiseGP (s : State) : State :=
  s.setCur { s.cur with pendingTrap := some (generalProtection s.cur.pc) }

/-- The exception a core has raised is taken: what R305 says is recorded stays recorded, and control goes where the spec
does not say, a FREE value (R307, R112; log entry 6). -/
def enterTrap (t : Trap) (s : State) : State :=
  s.setCur { s.cur with pendingTrap := none, savedTrap := some t, pc := Config.trapTarget s.tick }

/-- The output is an interrupt request of core `c` (R40). -/
def Output.isRequestOf (o : Output) (c : CoreId) : Bool :=
  match o with
  | .apicPerfInt c' _ => c' == c
  | .togglePM _ _ => false

/-- The core that moves recognises an overflow interrupt it has requested; a request is never withdrawn (R301, D15). Control
goes to a FREE address (R302, R307; log entry 7). With no request there is nothing to recognise. -/
def takeInterrupt (s : State) : State :=
  if s.outputs.any (fun o => o.isRequestOf s.env.core) then s.setCur { s.cur with pc := Config.trapTarget s.tick } else s

/-! The spec describes no return from an exception: IRET is only a counted instruction (R307, R308; log entry 6). -/

/-! ### Privilege (R109) -/

/-- RDMSR and WRMSR run at CPL 0 only (R109). -/
def privilegedOkMsr (l : CoreEnv) : Bool :=
  l.cpl == 0

/-- RDPMC runs at CPL 0, or at any level where the control bit allows it (R109). -/
def privilegedOkRdpmc (l : CoreEnv) : Bool :=
  l.cpl == 0 || l.rdpmcUserAllowed

/-! ### One counter's part of a counting step (R135) -/

/-- What one counter's part of a step gives: the counter, whether it requests the interrupt, whether its pin toggles. -/
structure CountResult where
  counter : Counter
  request : Bool
  toggle : Bool
  deriving DecidableEq, Repr

/-- R135 from the amount on: edge detector, gate, addition, overflow, interrupt and pin (R126 to R134). -/
def countCounter (amount : Nat) (q : Qualifiers) (cpl : BitVec 2) (n : Counter) : CountResult :=
  let inc := increment q cpl n.prev amount
  let ovf := overflows n.ctr inc
  { counter :=
      { sel := n.sel, ctr := counted n.ctr inc, prev := signal amount, pin := n.pin ^^ togglesPin q inc ovf }
    request := requestsInterrupt q ovf
    toggle := togglesPin q inc ovf }

/-- The output events of one counter's part of a step, in R135's order. -/
def CountResult.events (r : CountResult) (c : CoreId) (i : CtrId) : List Output :=
  (if r.request then [.apicPerfInt c i] else []) ++ (if r.toggle then [.togglePM c i] else [])

/-- The counter whose turn it is counts `amount` under the control word's fields `q`. -/
def applyAmount (amount : Nat) (q : Qualifiers) (s : State) : State :=
  let r := countCounter amount q s.lines.cpl (s.cur.counter s.ctr)
  { s.setCur (s.cur.setCounter s.ctr r.counter) with outputs := s.outputs ++ r.events s.env.core s.ctr }

/-- R137 (e), R316: on a dual-core processor the other core's counter of this number is enabled with a Northbridge event
selected. -/
def heldByOtherCore (s : State) : Bool :=
  let sel := ((s.core s.env.core.other).counter s.ctr).sel
  (qualifiersOf sel).enable && isNorthbridge (eventCode sel) && Config.dualCore

/-- The amount an event gives in this clock on this part (R122 to R125, R137). -/
def eventAmount (e : Event) (q : Qualifiers) (s : State) : Nat :=
  amountOf Config.rev (s.events.bitsOf e.code) (heldByOtherCore s) (Config.draw s.tick) e q (s.env.occ.get s.ctr)

/-- One counter's part of the counting step for an event (R135); nothing at all while the core is halted (R136). -/
def countEvent (e : Event) (q : Qualifiers) (s : State) : State :=
  if s.lines.halted then s else applyAmount (eventAmount e q s) q s

/-- The same for a reserved code: the amount is a draw, the gates still apply (R78, R137 (a)). -/
def countReserved (q : Qualifiers) (s : State) : State :=
  if s.lines.halted then s else applyAmount (Config.draw s.tick).toNat q s

end Sys2Proof.Machine
end

