-- ==== Sys2Proof/Machine/Access.lean ====
section
/-! DEFINITION. The register-access instructions WRMSR, RDMSR and RDPMC (`40_register_access.md`). -/

namespace Sys2Proof.Machine

/-- A WRMSR that completes: the register is written, the program counter is past the instruction (R103, R112), and the
next WRMSR of this core waits for a counting step (R128, D7). Nothing else changes (R111). -/
def completeWrmsr (r : MsrReg) (s : State) : State :=
  s.setCur { (writeMsr s.cur r s.cur.pair).pastInstr with clockOwed := true }

/-- `reserved_write` (R105): the three policies. -/
def reservedWrite (r : MsrReg) (s : State) : Host.Outcome State Fault Refusal :=
  match Config.reservedWritePolicy with
  | .refuse => .refused .reservedBitsWritten
  | .ignore => .next (completeWrmsr r s)
  | .raise => .next (raiseGP s)

/-- WRMSR (R103): the privilege, then the address, then the reserved bits. -/
def execWrmsr (s : State) : Host.Outcome State Fault Refusal :=
  if privilegedOkMsr s.lines then
    match msrAt s.cur.ecx with
    | none => .refused .msrOutsideFacility
    | some r => if s.cur.pair &&& r.reserved = 0 then .next (completeWrmsr r s) else reservedWrite r s
  else .next (raiseGP s)

/-- RDMSR (R101, R102). -/
def execRdmsr (s : State) : Host.Outcome State Fault Refusal :=
  if privilegedOkMsr s.lines then
    match msrAt s.cur.ecx with
    | none => .refused .msrOutsideFacility
    | some r => .next (s.setCur (s.cur.writePair s.lines.longMode (readMsr s.cur r)).pastInstr)
  else .next (raiseGP s)

/-- RDPMC (R106, R108): the privilege, then the index. -/
def execRdpmc (s : State) : Host.Outcome State Fault Refusal :=
  if privilegedOkRdpmc s.lines then
    match pmcAt s.cur.ecx with
    | none => .next (raiseGP s)
    | some i => .next (s.setCur (s.cur.writePair s.lines.longMode (readCounter s.cur i)).pastInstr)
  else .next (raiseGP s)

end Sys2Proof.Machine
end

