-- ==== Sys2Proof/Machine/EventsFpuLsDcL2.lean ====
section
/-! DEFINITION. Events of the floating-point unit, the load/store unit and TLB, the data cache, the L2 cache and the system
interface (`42_events_fpu_ls_dc_l2.md`): one meaning for each event, the counting step of R135 on what the event reports. -/

namespace Sys2Proof.Machine

/-- EVT_00h (R200): the clock's part of the counter that selects event 00h. -/
def execEvt00h (q : Qualifiers) (s : State) : Host.Outcome State Fault Refusal :=
  .next (countEvent event00h q s)

/-- EVT_01h (R201): the clock's part of the counter that selects event 01h. -/
def execEvt01h (q : Qualifiers) (s : State) : Host.Outcome State Fault Refusal :=
  .next (countEvent event01h q s)

/-- EVT_02h (R202): the clock's part of the counter that selects event 02h. -/
def execEvt02h (q : Qualifiers) (s : State) : Host.Outcome State Fault Refusal :=
  .next (countEvent event02h q s)

/-- EVT_20h (R203): the clock's part of the counter that selects event 20h. -/
def execEvt20h (q : Qualifiers) (s : State) : Host.Outcome State Fault Refusal :=
  .next (countEvent event20h q s)

/-- EVT_21h (R204): the clock's part of the counter that selects event 21h. -/
def execEvt21h (q : Qualifiers) (s : State) : Host.Outcome State Fault Refusal :=
  .next (countEvent event21h q s)

/-- EVT_22h (R205): the clock's part of the counter that selects event 22h. -/
def execEvt22h (q : Qualifiers) (s : State) : Host.Outcome State Fault Refusal :=
  .next (countEvent event22h q s)

/-- EVT_23h (R206): the clock's part of the counter that selects event 23h. -/
def execEvt23h (q : Qualifiers) (s : State) : Host.Outcome State Fault Refusal :=
  .next (countEvent event23h q s)

/-- EVT_24h (R207): the clock's part of the counter that selects event 24h. -/
def execEvt24h (q : Qualifiers) (s : State) : Host.Outcome State Fault Refusal :=
  .next (countEvent event24h q s)

/-- EVT_65h (R208): the clock's part of the counter that selects event 65h. -/
def execEvt65h (q : Qualifiers) (s : State) : Host.Outcome State Fault Refusal :=
  .next (countEvent event65h q s)

/-- EVT_40h (R209): the clock's part of the counter that selects event 40h. -/
def execEvt40h (q : Qualifiers) (s : State) : Host.Outcome State Fault Refusal :=
  .next (countEvent event40h q s)

/-- EVT_41h (R210): the clock's part of the counter that selects event 41h. -/
def execEvt41h (q : Qualifiers) (s : State) : Host.Outcome State Fault Refusal :=
  .next (countEvent event41h q s)

/-- EVT_42h (R211): the clock's part of the counter that selects event 42h. -/
def execEvt42h (q : Qualifiers) (s : State) : Host.Outcome State Fault Refusal :=
  .next (countEvent event42h q s)

/-- EVT_43h (R212): the clock's part of the counter that selects event 43h. -/
def execEvt43h (q : Qualifiers) (s : State) : Host.Outcome State Fault Refusal :=
  .next (countEvent event43h q s)

/-- EVT_44h (R213): the clock's part of the counter that selects event 44h. -/
def execEvt44h (q : Qualifiers) (s : State) : Host.Outcome State Fault Refusal :=
  .next (countEvent event44h q s)

/-- EVT_45h (R214): the clock's part of the counter that selects event 45h. -/
def execEvt45h (q : Qualifiers) (s : State) : Host.Outcome State Fault Refusal :=
  .next (countEvent event45h q s)

/-- EVT_46h (R215): the clock's part of the counter that selects event 46h. -/
def execEvt46h (q : Qualifiers) (s : State) : Host.Outcome State Fault Refusal :=
  .next (countEvent event46h q s)

/-- EVT_47h (R216): the clock's part of the counter that selects event 47h. -/
def execEvt47h (q : Qualifiers) (s : State) : Host.Outcome State Fault Refusal :=
  .next (countEvent event47h q s)

/-- EVT_48h (R217): the clock's part of the counter that selects event 48h. -/
def execEvt48h (q : Qualifiers) (s : State) : Host.Outcome State Fault Refusal :=
  .next (countEvent event48h q s)

/-- EVT_49h (R218): the clock's part of the counter that selects event 49h. -/
def execEvt49h (q : Qualifiers) (s : State) : Host.Outcome State Fault Refusal :=
  .next (countEvent event49h q s)

/-- EVT_4Ah (R219): the clock's part of the counter that selects event 4Ah. -/
def execEvt4Ah (q : Qualifiers) (s : State) : Host.Outcome State Fault Refusal :=
  .next (countEvent event4Ah q s)

/-- EVT_4Bh (R220): the clock's part of the counter that selects event 4Bh. -/
def execEvt4Bh (q : Qualifiers) (s : State) : Host.Outcome State Fault Refusal :=
  .next (countEvent event4Bh q s)

/-- EVT_4Ch (R221): the clock's part of the counter that selects event 4Ch. -/
def execEvt4Ch (q : Qualifiers) (s : State) : Host.Outcome State Fault Refusal :=
  .next (countEvent event4Ch q s)

/-- EVT_67h (R222): the clock's part of the counter that selects event 67h. -/
def execEvt67h (q : Qualifiers) (s : State) : Host.Outcome State Fault Refusal :=
  .next (countEvent event67h q s)

/-- EVT_6Ch (R223): the clock's part of the counter that selects event 6Ch. -/
def execEvt6Ch (q : Qualifiers) (s : State) : Host.Outcome State Fault Refusal :=
  .next (countEvent event6Ch q s)

/-- EVT_6Dh (R224): the clock's part of the counter that selects event 6Dh. -/
def execEvt6Dh (q : Qualifiers) (s : State) : Host.Outcome State Fault Refusal :=
  .next (countEvent event6Dh q s)

/-- EVT_7Dh (R225): the clock's part of the counter that selects event 7Dh. -/
def execEvt7Dh (q : Qualifiers) (s : State) : Host.Outcome State Fault Refusal :=
  .next (countEvent event7Dh q s)

/-- EVT_7Eh (R226): the clock's part of the counter that selects event 7Eh. -/
def execEvt7Eh (q : Qualifiers) (s : State) : Host.Outcome State Fault Refusal :=
  .next (countEvent event7Eh q s)

/-- EVT_7Fh (R227): the clock's part of the counter that selects event 7Fh. -/
def execEvt7Fh (q : Qualifiers) (s : State) : Host.Outcome State Fault Refusal :=
  .next (countEvent event7Fh q s)

end Sys2Proof.Machine
end

