-- ==== Sys2Proof/Machine/EventsIcEx.lean ====
section
/-! DEFINITION. Events of the instruction cache and the execution unit (`43_events_ic_ex.md`): one meaning for each event, the counting step of R135 on what the event reports. -/

namespace Sys2Proof.Machine

/-- EVT_80h (R230): the clock's part of the counter that selects event 80h. -/
def execEvt80h (q : Qualifiers) (s : State) : Host.Outcome State Fault Refusal :=
  .next (countEvent event80h q s)

/-- EVT_81h (R231): the clock's part of the counter that selects event 81h. -/
def execEvt81h (q : Qualifiers) (s : State) : Host.Outcome State Fault Refusal :=
  .next (countEvent event81h q s)

/-- EVT_82h (R232): the clock's part of the counter that selects event 82h. -/
def execEvt82h (q : Qualifiers) (s : State) : Host.Outcome State Fault Refusal :=
  .next (countEvent event82h q s)

/-- EVT_83h (R233): the clock's part of the counter that selects event 83h. -/
def execEvt83h (q : Qualifiers) (s : State) : Host.Outcome State Fault Refusal :=
  .next (countEvent event83h q s)

/-- EVT_84h (R234): the clock's part of the counter that selects event 84h. -/
def execEvt84h (q : Qualifiers) (s : State) : Host.Outcome State Fault Refusal :=
  .next (countEvent event84h q s)

/-- EVT_85h (R235): the clock's part of the counter that selects event 85h. -/
def execEvt85h (q : Qualifiers) (s : State) : Host.Outcome State Fault Refusal :=
  .next (countEvent event85h q s)

/-- EVT_86h (R236): the clock's part of the counter that selects event 86h. -/
def execEvt86h (q : Qualifiers) (s : State) : Host.Outcome State Fault Refusal :=
  .next (countEvent event86h q s)

/-- EVT_87h (R237): the clock's part of the counter that selects event 87h. -/
def execEvt87h (q : Qualifiers) (s : State) : Host.Outcome State Fault Refusal :=
  .next (countEvent event87h q s)

/-- EVT_88h (R238): the clock's part of the counter that selects event 88h. -/
def execEvt88h (q : Qualifiers) (s : State) : Host.Outcome State Fault Refusal :=
  .next (countEvent event88h q s)

/-- EVT_89h (R239): the clock's part of the counter that selects event 89h. -/
def execEvt89h (q : Qualifiers) (s : State) : Host.Outcome State Fault Refusal :=
  .next (countEvent event89h q s)

/-- EVT_26h (R240): the clock's part of the counter that selects event 26h. -/
def execEvt26h (q : Qualifiers) (s : State) : Host.Outcome State Fault Refusal :=
  .next (countEvent event26h q s)

/-- EVT_27h (R241): the clock's part of the counter that selects event 27h. -/
def execEvt27h (q : Qualifiers) (s : State) : Host.Outcome State Fault Refusal :=
  .next (countEvent event27h q s)

/-- EVT_76h (R242): the clock's part of the counter that selects event 76h. -/
def execEvt76h (q : Qualifiers) (s : State) : Host.Outcome State Fault Refusal :=
  .next (countEvent event76h q s)

/-- EVT_C0h (R243): the clock's part of the counter that selects event C0h. -/
def execEvtC0h (q : Qualifiers) (s : State) : Host.Outcome State Fault Refusal :=
  .next (countEvent eventC0h q s)

/-- EVT_C1h (R244): the clock's part of the counter that selects event C1h. -/
def execEvtC1h (q : Qualifiers) (s : State) : Host.Outcome State Fault Refusal :=
  .next (countEvent eventC1h q s)

/-- EVT_C2h (R245): the clock's part of the counter that selects event C2h. -/
def execEvtC2h (q : Qualifiers) (s : State) : Host.Outcome State Fault Refusal :=
  .next (countEvent eventC2h q s)

/-- EVT_C3h (R246): the clock's part of the counter that selects event C3h. -/
def execEvtC3h (q : Qualifiers) (s : State) : Host.Outcome State Fault Refusal :=
  .next (countEvent eventC3h q s)

/-- EVT_C4h (R247): the clock's part of the counter that selects event C4h. -/
def execEvtC4h (q : Qualifiers) (s : State) : Host.Outcome State Fault Refusal :=
  .next (countEvent eventC4h q s)

/-- EVT_C5h (R248): the clock's part of the counter that selects event C5h. -/
def execEvtC5h (q : Qualifiers) (s : State) : Host.Outcome State Fault Refusal :=
  .next (countEvent eventC5h q s)

/-- EVT_C6h (R249): the clock's part of the counter that selects event C6h. -/
def execEvtC6h (q : Qualifiers) (s : State) : Host.Outcome State Fault Refusal :=
  .next (countEvent eventC6h q s)

/-- EVT_C7h (R250): the clock's part of the counter that selects event C7h. -/
def execEvtC7h (q : Qualifiers) (s : State) : Host.Outcome State Fault Refusal :=
  .next (countEvent eventC7h q s)

/-- EVT_C8h (R251): the clock's part of the counter that selects event C8h. -/
def execEvtC8h (q : Qualifiers) (s : State) : Host.Outcome State Fault Refusal :=
  .next (countEvent eventC8h q s)

/-- EVT_C9h (R252): the clock's part of the counter that selects event C9h. -/
def execEvtC9h (q : Qualifiers) (s : State) : Host.Outcome State Fault Refusal :=
  .next (countEvent eventC9h q s)

/-- EVT_CAh (R253): the clock's part of the counter that selects event CAh. -/
def execEvtCAh (q : Qualifiers) (s : State) : Host.Outcome State Fault Refusal :=
  .next (countEvent eventCAh q s)

/-- EVT_CBh (R254): the clock's part of the counter that selects event CBh. -/
def execEvtCBh (q : Qualifiers) (s : State) : Host.Outcome State Fault Refusal :=
  .next (countEvent eventCBh q s)

/-- EVT_CCh (R255): the clock's part of the counter that selects event CCh. -/
def execEvtCCh (q : Qualifiers) (s : State) : Host.Outcome State Fault Refusal :=
  .next (countEvent eventCCh q s)

/-- EVT_CDh (R256): the clock's part of the counter that selects event CDh. -/
def execEvtCDh (q : Qualifiers) (s : State) : Host.Outcome State Fault Refusal :=
  .next (countEvent eventCDh q s)

/-- EVT_CEh (R257): the clock's part of the counter that selects event CEh. -/
def execEvtCEh (q : Qualifiers) (s : State) : Host.Outcome State Fault Refusal :=
  .next (countEvent eventCEh q s)

/-- EVT_CFh (R258): the clock's part of the counter that selects event CFh. -/
def execEvtCFh (q : Qualifiers) (s : State) : Host.Outcome State Fault Refusal :=
  .next (countEvent eventCFh q s)

/-- EVT_D0h (R259): the clock's part of the counter that selects event D0h. -/
def execEvtD0h (q : Qualifiers) (s : State) : Host.Outcome State Fault Refusal :=
  .next (countEvent eventD0h q s)

/-- EVT_D1h (R260): the clock's part of the counter that selects event D1h. -/
def execEvtD1h (q : Qualifiers) (s : State) : Host.Outcome State Fault Refusal :=
  .next (countEvent eventD1h q s)

/-- EVT_D2h (R261): the clock's part of the counter that selects event D2h. -/
def execEvtD2h (q : Qualifiers) (s : State) : Host.Outcome State Fault Refusal :=
  .next (countEvent eventD2h q s)

/-- EVT_D3h (R262): the clock's part of the counter that selects event D3h. -/
def execEvtD3h (q : Qualifiers) (s : State) : Host.Outcome State Fault Refusal :=
  .next (countEvent eventD3h q s)

/-- EVT_D4h (R263): the clock's part of the counter that selects event D4h. -/
def execEvtD4h (q : Qualifiers) (s : State) : Host.Outcome State Fault Refusal :=
  .next (countEvent eventD4h q s)

/-- EVT_D5h (R264): the clock's part of the counter that selects event D5h. -/
def execEvtD5h (q : Qualifiers) (s : State) : Host.Outcome State Fault Refusal :=
  .next (countEvent eventD5h q s)

/-- EVT_D6h (R265): the clock's part of the counter that selects event D6h. -/
def execEvtD6h (q : Qualifiers) (s : State) : Host.Outcome State Fault Refusal :=
  .next (countEvent eventD6h q s)

/-- EVT_D7h (R266): the clock's part of the counter that selects event D7h. -/
def execEvtD7h (q : Qualifiers) (s : State) : Host.Outcome State Fault Refusal :=
  .next (countEvent eventD7h q s)

/-- EVT_D8h (R267): the clock's part of the counter that selects event D8h. -/
def execEvtD8h (q : Qualifiers) (s : State) : Host.Outcome State Fault Refusal :=
  .next (countEvent eventD8h q s)

/-- EVT_D9h (R268): the clock's part of the counter that selects event D9h. -/
def execEvtD9h (q : Qualifiers) (s : State) : Host.Outcome State Fault Refusal :=
  .next (countEvent eventD9h q s)

/-- EVT_DAh (R269): the clock's part of the counter that selects event DAh. -/
def execEvtDAh (q : Qualifiers) (s : State) : Host.Outcome State Fault Refusal :=
  .next (countEvent eventDAh q s)

/-- EVT_DBh (R270): the clock's part of the counter that selects event DBh. -/
def execEvtDBh (q : Qualifiers) (s : State) : Host.Outcome State Fault Refusal :=
  .next (countEvent eventDBh q s)

/-- EVT_DCh (R271): the clock's part of the counter that selects event DCh. -/
def execEvtDCh (q : Qualifiers) (s : State) : Host.Outcome State Fault Refusal :=
  .next (countEvent eventDCh q s)

/-- EVT_DDh (R272): the clock's part of the counter that selects event DDh. -/
def execEvtDDh (q : Qualifiers) (s : State) : Host.Outcome State Fault Refusal :=
  .next (countEvent eventDDh q s)

/-- EVT_DEh (R273): the clock's part of the counter that selects event DEh. -/
def execEvtDEh (q : Qualifiers) (s : State) : Host.Outcome State Fault Refusal :=
  .next (countEvent eventDEh q s)

/-- EVT_DFh (R274): the clock's part of the counter that selects event DFh. -/
def execEvtDFh (q : Qualifiers) (s : State) : Host.Outcome State Fault Refusal :=
  .next (countEvent eventDFh q s)

end Sys2Proof.Machine
end

