-- ==== Sys2Proof/Machine/EventsNbHt.lean ====
section
/-! DEFINITION. Northbridge events: memory controller and HyperTransport interface (`44_events_nb_ht.md`): one meaning for each event, the counting step of R135 on what the event reports. -/

namespace Sys2Proof.Machine

/-- EVT_E0h (R281): the clock's part of the counter that selects event E0h. -/
def execEvtE0h (q : Qualifiers) (s : State) : Host.Outcome State Fault Refusal :=
  .next (countEvent eventE0h q s)

/-- EVT_E1h (R282): the clock's part of the counter that selects event E1h. -/
def execEvtE1h (q : Qualifiers) (s : State) : Host.Outcome State Fault Refusal :=
  .next (countEvent eventE1h q s)

/-- EVT_E3h (R283): the clock's part of the counter that selects event E3h. -/
def execEvtE3h (q : Qualifiers) (s : State) : Host.Outcome State Fault Refusal :=
  .next (countEvent eventE3h q s)

/-- EVT_E4h (R284): the clock's part of the counter that selects event E4h. -/
def execEvtE4h (q : Qualifiers) (s : State) : Host.Outcome State Fault Refusal :=
  .next (countEvent eventE4h q s)

/-- EVT_E5h (R285): the clock's part of the counter that selects event E5h. -/
def execEvtE5h (q : Qualifiers) (s : State) : Host.Outcome State Fault Refusal :=
  .next (countEvent eventE5h q s)

/-- EVT_E8h (R286): the clock's part of the counter that selects event E8h. -/
def execEvtE8h (q : Qualifiers) (s : State) : Host.Outcome State Fault Refusal :=
  .next (countEvent eventE8h q s)

/-- EVT_E9h (R287): the clock's part of the counter that selects event E9h. -/
def execEvtE9h (q : Qualifiers) (s : State) : Host.Outcome State Fault Refusal :=
  .next (countEvent eventE9h q s)

/-- EVT_EAh (R288): the clock's part of the counter that selects event EAh. -/
def execEvtEAh (q : Qualifiers) (s : State) : Host.Outcome State Fault Refusal :=
  .next (countEvent eventEAh q s)

/-- EVT_EBh (R289): the clock's part of the counter that selects event EBh. -/
def execEvtEBh (q : Qualifiers) (s : State) : Host.Outcome State Fault Refusal :=
  .next (countEvent eventEBh q s)

/-- EVT_ECh (R290): the clock's part of the counter that selects event ECh. -/
def execEvtECh (q : Qualifiers) (s : State) : Host.Outcome State Fault Refusal :=
  .next (countEvent eventECh q s)

/-- EVT_EEh (R291): the clock's part of the counter that selects event EEh. -/
def execEvtEEh (q : Qualifiers) (s : State) : Host.Outcome State Fault Refusal :=
  .next (countEvent eventEEh q s)

/-- EVT_F6h (R292): the clock's part of the counter that selects event F6h. -/
def execEvtF6h (q : Qualifiers) (s : State) : Host.Outcome State Fault Refusal :=
  .next (countEvent eventF6h q s)

/-- EVT_F7h (R293): the clock's part of the counter that selects event F7h. -/
def execEvtF7h (q : Qualifiers) (s : State) : Host.Outcome State Fault Refusal :=
  .next (countEvent eventF7h q s)

/-- EVT_F8h (R294): the clock's part of the counter that selects event F8h. -/
def execEvtF8h (q : Qualifiers) (s : State) : Host.Outcome State Fault Refusal :=
  .next (countEvent eventF8h q s)

end Sys2Proof.Machine
end

