-- ==== Sys2Proof/Machine/Dispatch.lean ====
section
/-! DEFINITION. One arm for each constructor of Instr, each a direct call of the instruction's meaning. -/

namespace Sys2Proof.Machine

def exec (i : Instr) (s : State) : Host.Outcome State Fault Refusal :=
  match i with
  | .wrmsr => Sys2Proof.Machine.execWrmsr s
  | .rdmsr => Sys2Proof.Machine.execRdmsr s
  | .rdpmc => Sys2Proof.Machine.execRdpmc s
  | .evt00h q => Sys2Proof.Machine.execEvt00h q s
  | .evt01h q => Sys2Proof.Machine.execEvt01h q s
  | .evt02h q => Sys2Proof.Machine.execEvt02h q s
  | .evt20h q => Sys2Proof.Machine.execEvt20h q s
  | .evt21h q => Sys2Proof.Machine.execEvt21h q s
  | .evt22h q => Sys2Proof.Machine.execEvt22h q s
  | .evt23h q => Sys2Proof.Machine.execEvt23h q s
  | .evt24h q => Sys2Proof.Machine.execEvt24h q s
  | .evt65h q => Sys2Proof.Machine.execEvt65h q s
  | .evt40h q => Sys2Proof.Machine.execEvt40h q s
  | .evt41h q => Sys2Proof.Machine.execEvt41h q s
  | .evt42h q => Sys2Proof.Machine.execEvt42h q s
  | .evt43h q => Sys2Proof.Machine.execEvt43h q s
  | .evt44h q => Sys2Proof.Machine.execEvt44h q s
  | .evt45h q => Sys2Proof.Machine.execEvt45h q s
  | .evt46h q => Sys2Proof.Machine.execEvt46h q s
  | .evt47h q => Sys2Proof.Machine.execEvt47h q s
  | .evt48h q => Sys2Proof.Machine.execEvt48h q s
  | .evt49h q => Sys2Proof.Machine.execEvt49h q s
  | .evt4Ah q => Sys2Proof.Machine.execEvt4Ah q s
  | .evt4Bh q => Sys2Proof.Machine.execEvt4Bh q s
  | .evt4Ch q => Sys2Proof.Machine.execEvt4Ch q s
  | .evt67h q => Sys2Proof.Machine.execEvt67h q s
  | .evt6Ch q => Sys2Proof.Machine.execEvt6Ch q s
  | .evt6Dh q => Sys2Proof.Machine.execEvt6Dh q s
  | .evt7Dh q => Sys2Proof.Machine.execEvt7Dh q s
  | .evt7Eh q => Sys2Proof.Machine.execEvt7Eh q s
  | .evt7Fh q => Sys2Proof.Machine.execEvt7Fh q s
  | .evt80h q => Sys2Proof.Machine.execEvt80h q s
  | .evt81h q => Sys2Proof.Machine.execEvt81h q s
  | .evt82h q => Sys2Proof.Machine.execEvt82h q s
  | .evt83h q => Sys2Proof.Machine.execEvt83h q s
  | .evt84h q => Sys2Proof.Machine.execEvt84h q s
  | .evt85h q => Sys2Proof.Machine.execEvt85h q s
  | .evt86h q => Sys2Proof.Machine.execEvt86h q s
  | .evt87h q => Sys2Proof.Machine.execEvt87h q s
  | .evt88h q => Sys2Proof.Machine.execEvt88h q s
  | .evt89h q => Sys2Proof.Machine.execEvt89h q s
  | .evt26h q => Sys2Proof.Machine.execEvt26h q s
  | .evt27h q => Sys2Proof.Machine.execEvt27h q s
  | .evt76h q => Sys2Proof.Machine.execEvt76h q s
  | .evtC0h q => Sys2Proof.Machine.execEvtC0h q s
  | .evtC1h q => Sys2Proof.Machine.execEvtC1h q s
  | .evtC2h q => Sys2Proof.Machine.execEvtC2h q s
  | .evtC3h q => Sys2Proof.Machine.execEvtC3h q s
  | .evtC4h q => Sys2Proof.Machine.execEvtC4h q s
  | .evtC5h q => Sys2Proof.Machine.execEvtC5h q s
  | .evtC6h q => Sys2Proof.Machine.execEvtC6h q s
  | .evtC7h q => Sys2Proof.Machine.execEvtC7h q s
  | .evtC8h q => Sys2Proof.Machine.execEvtC8h q s
  | .evtC9h q => Sys2Proof.Machine.execEvtC9h q s
  | .evtCAh q => Sys2Proof.Machine.execEvtCAh q s
  | .evtCBh q => Sys2Proof.Machine.execEvtCBh q s
  | .evtCCh q => Sys2Proof.Machine.execEvtCCh q s
  | .evtCDh q => Sys2Proof.Machine.execEvtCDh q s
  | .evtCEh q => Sys2Proof.Machine.execEvtCEh q s
  | .evtCFh q => Sys2Proof.Machine.execEvtCFh q s
  | .evtD0h q => Sys2Proof.Machine.execEvtD0h q s
  | .evtD1h q => Sys2Proof.Machine.execEvtD1h q s
  | .evtD2h q => Sys2Proof.Machine.execEvtD2h q s
  | .evtD3h q => Sys2Proof.Machine.execEvtD3h q s
  | .evtD4h q => Sys2Proof.Machine.execEvtD4h q s
  | .evtD5h q => Sys2Proof.Machine.execEvtD5h q s
  | .evtD6h q => Sys2Proof.Machine.execEvtD6h q s
  | .evtD7h q => Sys2Proof.Machine.execEvtD7h q s
  | .evtD8h q => Sys2Proof.Machine.execEvtD8h q s
  | .evtD9h q => Sys2Proof.Machine.execEvtD9h q s
  | .evtDAh q => Sys2Proof.Machine.execEvtDAh q s
  | .evtDBh q => Sys2Proof.Machine.execEvtDBh q s
  | .evtDCh q => Sys2Proof.Machine.execEvtDCh q s
  | .evtDDh q => Sys2Proof.Machine.execEvtDDh q s
  | .evtDEh q => Sys2Proof.Machine.execEvtDEh q s
  | .evtDFh q => Sys2Proof.Machine.execEvtDFh q s
  | .evtE0h q => Sys2Proof.Machine.execEvtE0h q s
  | .evtE1h q => Sys2Proof.Machine.execEvtE1h q s
  | .evtE3h q => Sys2Proof.Machine.execEvtE3h q s
  | .evtE4h q => Sys2Proof.Machine.execEvtE4h q s
  | .evtE5h q => Sys2Proof.Machine.execEvtE5h q s
  | .evtE8h q => Sys2Proof.Machine.execEvtE8h q s
  | .evtE9h q => Sys2Proof.Machine.execEvtE9h q s
  | .evtEAh q => Sys2Proof.Machine.execEvtEAh q s
  | .evtEBh q => Sys2Proof.Machine.execEvtEBh q s
  | .evtECh q => Sys2Proof.Machine.execEvtECh q s
  | .evtEEh q => Sys2Proof.Machine.execEvtEEh q s
  | .evtF6h q => Sys2Proof.Machine.execEvtF6h q s
  | .evtF7h q => Sys2Proof.Machine.execEvtF7h q s
  | .evtF8h q => Sys2Proof.Machine.execEvtF8h q s

end Sys2Proof.Machine
end

