-- ==== Sys2Proof/Machine/Memory.lean ====
section
/-! DEFINITION. The bytes of the instruction stream. The spec gives no memory map (`20_memory.md` R52) and none of its
operations reads or writes memory (R55); the model holds bytes only so that the instruction agent can fetch. Canonical
form: addresses strictly rising, below 2^64; an address that is not listed holds nothing. -/

namespace Sys2Proof.Machine

/-- The byte at an address; none where nothing has placed one. -/
def memRead : List Host.Cell → Nat → Option Byte
  | [], _ => none
  | (a, b) :: m, x => if a = x then some b else memRead m x

/-- The bytes with the byte at `x` placed. -/
def memWrite (m : List Host.Cell) (x : Nat) (v : Byte) : List Host.Cell :=
  match m with
  | [] => [(x, v)]
  | (a, b) :: rest =>
    if x < a then (x, v) :: (a, b) :: rest
    else if x = a then (x, v) :: rest
    else (a, b) :: memWrite rest x v

/-- The number of addresses (the program counter's width; PRESUMED, log entry 9). -/
def addrLimit : Nat := 2 ^ 64

/-- The address is above the last one, if there is a last one. -/
def aboveLast (last : Option Nat) (a : Nat) : Bool :=
  match last with
  | none => true
  | some l => decide (l < a)

/-- The addresses rise strictly, the first above `last` where it is given, and stay below the limit. -/
def memSortedFrom (last : Option Nat) : List Host.Cell → Bool
  | [] => true
  | (a, _) :: m => aboveLast last a && decide (a < addrLimit) && memSortedFrom (some a) m

/-- The canonical form of memory. -/
def memWf (m : List Host.Cell) : Bool :=
  memSortedFrom none m

end Sys2Proof.Machine
end

