-- ==== Sys2Proof/Machine/Agents.lean ====
section
/-! DEFINITION. The agents (R120, R323): what each does in its turn, and who moves next (D1, D7). -/

namespace Sys2Proof.Machine

/-- What the environment presents at boundary `n`; a processor with one core has only core 0. -/
def nextEnv (n : Nat) : Env :=
  { Config.env n with core := if Config.dualCore then (Config.env n).core else .core0 }

/-- A counting step of the core that moves is complete; the next WRMSR of that core need not wait (D7). While the core is
halted there is no counting step (R136). -/
def clockDone (s : State) : State :=
  if s.lines.halted then s else s.setCur { s.cur with clockOwed := false }

/-- A boundary between agent steps: the environment presents the next inputs and says who moves (D1). -/
def boundary (s : State) : State :=
  { s with ctr := .c0, tick := s.tick + 1, env := nextEnv (s.tick + 1) }

/-- The next counter's part of the same clock. -/
def nextCounter (i : CtrId) (s : State) : State :=
  { s with ctr := i, tick := s.tick + 1 }

/-- The state that is ready for the next step: in a clock of a counting agent the four counters come in turn, with the
same inputs (R135); then, and after an instruction, a boundary. -/
def advance (s : State) : State :=
  match s.env.agent with
  | .instr => boundary s
  | .interrupt => boundary s
  | .count =>
    match s.ctr with
    | .c0 => nextCounter .c1 s
    | .c1 => nextCounter .c2 s
    | .c2 => nextCounter .c3 s
    | .c3 => boundary (clockDone s)

/-- `advance` after what an instruction gave. -/
def advanceOutcome : Host.Outcome State Fault Refusal → Host.Outcome State Fault Refusal
  | .next s => .next (advance s)
  | .fault r => .fault r
  | .refused r => .refused r

/-- The bytes at a program counter, at most two, as far as they are there. -/
def bytesAt (m : List Host.Cell) (pc : Quad) : List Byte :=
  match memRead m pc.toNat with
  | none => []
  | some b =>
    match memRead m (pc + 1).toNat with
    | none => [b]
    | some c => [b, c]

/-- The instruction at the program counter of the core that moves. -/
def fetched (s : State) : Except DecodeError Instr :=
  decodeBytes (bytesAt s.mem s.cur.pc)

/-- The instruction in the PerfEvtSel register whose counter's part of the clock is next. -/
def selected (s : State) : Except DecodeError Instr :=
  decodeControl (s.cur.counter s.ctr).sel

/-- D7: a WRMSR waits until a counting step of its core has followed the last WRMSR. -/
def waitsForClock (i : Instr) (k : Core) : Bool :=
  k.clockOwed && i == .wrmsr

/-- The instruction agent: idle while the core is halted (DEDUCED, log entry 8); takes an exception it has raised; waits
where D7 says so; otherwise runs the instruction at its program counter. -/
def instructionAgent (s : State) : Host.Outcome State Fault Refusal :=
  if s.lines.halted then .next (advance s)
  else
    match s.cur.pendingTrap with
    | some t => .next (advance (enterTrap t s))
    | none =>
      match fetched s with
      | .ok i => if waitsForClock i s.cur then .next (advance s) else advanceOutcome (exec i s)
      | .error .truncated => .fault .fetchAbsent
      | .error .otherOpcode => .refused .instructionOutsideSpec
      | .error .reservedEvent => .refused .instructionOutsideSpec

/-- The counting agent: the part of the counter whose turn it is (R135); a reserved code draws (R137 (a)). -/
def countingAgent (s : State) : Host.Outcome State Fault Refusal :=
  match selected s with
  | .ok i => advanceOutcome (exec i s)
  | .error _ => .next (advance (countReserved (qualifiersOf (s.cur.counter s.ctr).sel) s))

/-- The environment lets the core that moves recognise an overflow interrupt. -/
def interruptAgent (s : State) : Host.Outcome State Fault Refusal :=
  .next (advance (takeInterrupt s))

/-- `s` with an instruction's two bytes at the program counter of the core that moves, and that core's instruction agent
about to run it: not halted, nothing raised, no clock owed. -/
def placeBytes (s : State) (bs : List Byte) : State :=
  let k := s.cur
  let s1 := s.setCur { k with pendingTrap := none, clockOwed := false }
  { s1 with
    mem := memWrite (memWrite s.mem k.pc.toNat (bs.headD 0)) (k.pc + 1).toNat (bs.tail.headD 0)
    env := { s.env.setLines s.env.core { s.lines with halted := false } with agent := .instr } }

/-- `s` with a control word in the PerfEvtSel register whose counter's part of the clock is next, and the counting agent
of the core that moves about to run it, not halted. -/
def placeControl (s : State) (v : Quad) : State :=
  let s1 := s.setCur (s.cur.setCounter s.ctr { s.cur.counter s.ctr with sel := v &&& selMask })
  { s1 with env := { s.env.setLines s.env.core { s.lines with halted := false } with agent := .count } }

end Sys2Proof.Machine
end

