-- ==== Sys2Proof/Machine/Step.lean ====
section
/-! DEFINITION. One step of the machine. -/

namespace Sys2Proof.Machine

/-- One step: the agent that the environment names moves. -/
def step (s : State) : Host.Outcome State Fault Refusal :=
  match s.env.agent with
  | .instr => instructionAgent s
  | .count => countingAgent s
  | .interrupt => interruptAgent s

/-- `s` with the instruction of a row of the opcode table stored where the next step fetches: two bytes at the program
counter (R86), or a control word in the selected PerfEvtSel register (R87). -/
def State.withFetchWord (s : State) (nbits w : Nat) : State :=
  if nbits = 16 then placeBytes s (rowBytes w) else placeControl s (rowControl nbits w)

end Sys2Proof.Machine
end

