-- ==== Sys2Proof/WellFormed.lean ====
section
/-! DEFINITION. Well-formed instructions: a control word each of whose fields holds a value that the spec defines for its
event in a part of the newest revision class that
implements every event (R79, R80, R137). Every term has an encoding, well-formed or not: no field
of Instr is wider than its place in the word. -/

namespace Sys2Proof

/-- The UNIT_MASK is defined for the event (R79, R287). -/
def unitMaskDefined (e : Machine.Event) (q : Qualifiers) : Bool :=
  !(e.unitMaskUndefined .eOrLater 0xFF q.unitMask)

/-- The checks: UNIT_MASK (R79, R287), CNT_MASK (R80), INV without a threshold (R137 (d)). The three register-access
instructions have no operand to check. -/
def wellFormed (i : Instr) : Bool :=
  match Machine.eventOf i, qualifiers i with
  | some e, some q => unitMaskDefined e q && !(Machine.cntMaskReserved q) && !(Machine.invertUndefined q)
  | _, _ => true

end Sys2Proof
end

