-- ==== Sys2Proof/Safety.lean ====
section
/-! DEFINITION. The terms in which claims are stated: R135's step written as one piece from the rules' own text, apart from
the machine's operations; the invariant every step keeps; runs of one counter. -/

namespace Sys2Proof.Machine

/-- R123 to R125: the amount that `n` occurrences give. -/
def specAmount (q : Qualifiers) (n : Nat) : Nat :=
  if q.cntMask.toNat = 0 then n
  else if q.invert = false then (if n ≥ q.cntMask.toNat then 1 else 0)
  else (if n < q.cntMask.toNat then 1 else 0)

/-- R126, R127, R129: the increment that an amount gives to a counter whose detector holds `prev`. -/
def specInc (q : Qualifiers) (cpl : BitVec 2) (prev : Bool) (amount : Nat) : Nat :=
  if q.enable = true ∧ ((cpl.toNat = 0 ∧ q.os = true) ∨ (cpl.toNat > 0 ∧ q.usr = true)) then
    (if q.edge = true then (if amount ≠ 0 ∧ prev = false then 1 else 0) else amount)
  else 0

/-- R134: the pin toggles in a step that adds `inc` to `ctr`. -/
abbrev SpecToggles (q : Qualifiers) (ctr inc : Nat) : Prop :=
  (q.pinControl = true ∧ ctr + inc ≥ 2 ^ 48) ∨ (q.pinControl = false ∧ inc > 0)

/-- R133: the interrupt is requested in a step that adds `inc` to `ctr`. -/
abbrev SpecRequests (q : Qualifiers) (ctr inc : Nat) : Prop :=
  ctr + inc ≥ 2 ^ 48 ∧ q.intEnable = true

/-- R135: counter `n` after its part of a step of amount `amount`. -/
def specCounter (q : Qualifiers) (cpl : BitVec 2) (amount : Nat) (n : Counter) : Counter :=
  { sel := n.sel
    ctr := BitVec.ofNat 48 ((n.ctr.toNat + specInc q cpl n.prev amount) % 2 ^ 48)
    prev := decide (amount ≠ 0)
    pin := if SpecToggles q n.ctr.toNat (specInc q cpl n.prev amount) then !n.pin else n.pin }

/-- R133, R134: the output events of counter `n`'s part of a step, number `i` of core `c`. -/
def specOutputs (q : Qualifiers) (cpl : BitVec 2) (amount : Nat) (n : Counter) (c : CoreId) (i : CtrId) : List Output :=
  (if SpecRequests q n.ctr.toNat (specInc q cpl n.prev amount) then [.apicPerfInt c i] else []) ++
    (if SpecToggles q n.ctr.toNat (specInc q cpl n.prev amount) then [.togglePM c i] else [])

/-- The state after the part of counter `s.ctr` of the moving core in a step of amount `amount`: nothing but that
counter and the list of outputs changes (R135). -/
def afterCounting (s : State) (q : Qualifiers) (amount : Nat) : State :=
  { s.setCore s.env.core ((s.core s.env.core).setCounter s.ctr
      (specCounter q (s.env.lines s.env.core).cpl amount ((s.core s.env.core).counter s.ctr))) with
    outputs := s.outputs ++
      specOutputs q (s.env.lines s.env.core).cpl amount ((s.core s.env.core).counter s.ctr) s.env.core s.ctr }

/-- The MSR address of PerfEvtSel`i` (R24). -/
def selAddress : CtrId → Word
  | .c0 => 0xC0010000
  | .c1 => 0xC0010001
  | .c2 => 0xC0010002
  | .c3 => 0xC0010003

/-- The MSR address of PerfCtr`i` (R21). -/
def ctrAddress : CtrId → Word
  | .c0 => 0xC0010004
  | .c1 => 0xC0010005
  | .c2 => 0xC0010006
  | .c3 => 0xC0010007

/-- The number that ECX holds for RDPMC of counter `i` (R51). -/
def pmcIndex : CtrId → Word
  | .c0 => 0
  | .c1 => 1
  | .c2 => 2
  | .c3 => 3

/-- A general register after its 32-bit half is written (R107): in 64-bit mode the upper half is 0; else it stays
(DEDUCED, log entry 5). -/
def halfWritten (longMode : Bool) (old : Quad) (v : Word) : Quad :=
  (if longMode then 0#32 else old.extractLsb' 32 32) ++ v

/-- `s` where the moving core has raised #GP(0) at its program counter and nothing else has changed (R305). -/
def withGP (s : State) : State :=
  s.setCur { s.cur with pendingTrap := some { vector := 13, errorCode := 0, savedPc := s.cur.pc } }

/-- The fields besides UNIT_MASK hold values the spec defines (R80, R137 (c), (d)). -/
abbrev PlainFieldsDefined (q : Qualifiers) : Prop :=
  q.cntMask.toNat < 4 ∧ (q.cntMask = 0 → q.invert = false)

/-- The other core has the counter of this number enabled with a Northbridge event selected (R316): bit 22 of its
PerfEvtSel is set and its EVENT_SELECT is one of R280's codes. -/
abbrev OtherCoreSelectsNorthbridge (s : State) : Prop :=
  (((s.core s.env.core.other).counter s.ctr).sel.getLsbD 22 = true) ∧
    (((s.core s.env.core.other).counter s.ctr).sel.extractLsb' 0 8) ∈
      [0xE0#8, 0xE1#8, 0xE3#8, 0xE4#8, 0xE5#8, 0xE8#8, 0xE9#8, 0xEA#8, 0xEB#8, 0xEC#8, 0xEE#8, 0xF6#8, 0xF7#8, 0xF8#8]

/-- The sum over the rows of a UNIT_MASK table of what the oracle reports for the rows whose bits are set; a row is its
mask and whether it is a condition, reported as 0 or 1 (R122, R141). -/
def selectedSum (um : BitVec 8) (rows : List (BitVec 8 × Bool)) (reports : List (BitVec 2)) : Nat :=
  ((List.range rows.length).map fun k =>
    if um &&& (rows.getD k (0, false)).1 = (rows.getD k (0, false)).1 then
      (if (rows.getD k (0, false)).2 then (if reports.getD k 0 = 0 then 0 else 1) else (reports.getD k 0).toNat)
    else 0).sum

/-- The EVENT_SELECT code of a control word; 0 for the three register-access instructions. -/
def codeOf (i : Instr) : BitVec 8 :=
  match encode i with
  | .bytes _ => 0
  | .control v => eventCode v

/-- R79's table: the UNIT_MASK bits defined for a code; 0 for a code without a table. -/
def tableBits (code : BitVec 8) : BitVec 8 :=
  match code.toNat with
  | 0x00 => 0x3F
  | 0x20 => 0x7F
  | 0x24 => 0x07
  | 0x65 => 0x83
  | 0x42 => 0x1F
  | 0x43 => 0x1F
  | 0x44 => 0x1F
  | 0x4A => 0x03
  | 0x4B => 0x07
  | 0x4C => 0x02
  | 0x67 => 0x03
  | 0x6C => 0x07
  | 0x6D => 0x01
  | 0x7D => 0x1F
  | 0x7E => 0x07
  | 0x7F => 0x03
  | 0xCB => 0x0F
  | 0xCC => 0x07
  | 0xDB => 0x0F
  | 0xE0 => 0x07
  | 0xE3 => 0x07
  | 0xE4 => 0x0F
  | 0xE5 => 0x3C
  | 0xE8 => 0x80
  | 0xE9 => 0xFF
  | 0xEA => 0x3D
  | 0xEB => 0x7F
  | 0xEC => 0x7F
  | 0xEE => 0x07
  | 0xF6 => 0x0F
  | 0xF7 => 0x0F
  | 0xF8 => 0x0F
  | _ => 0

/-- R297: the revision that a code with a UNIT_MASK needs. -/
def neededRev (code um : BitVec 8) : Rev :=
  match code.toNat with
  | 0xE5 => .d
  | 0xE8 => .eOrLater
  | 0xE9 => .eOrLater
  | 0xEA => .eOrLater
  | 0xEC => if um.getLsbD 6 then .d else .beforeD
  | _ => .beforeD

/-- R287's table of valid UNIT_MASK values: the ten supported paths of event E9h. -/
def requestPaths : List (BitVec 8) :=
  [0xA8, 0xA4, 0xA2, 0xA1, 0x98, 0x94, 0x92, 0x91, 0x64, 0x61]

/-- The UNIT_MASK is defined for the code (R79, R287, U7): no bit outside its table, and for event E9h at least one
supported path. -/
abbrev UnitMaskDefined (code um : BitVec 8) : Prop :=
  (tableBits code ≠ 0 → um &&& ~~~(tableBits code) = 0) ∧ (code = 0xE9 → ∃ p ∈ requestPaths, um &&& p = p)

/-- The part has the code with this UNIT_MASK: it lists the code and the mask's bits (parameter `EVENTS`, R8, U9) and is
of a revision that defines them (parameter `REV`, R297). -/
def partHas (s : State) (code um : BitVec 8) : Bool :=
  match s.events.bitsOf code with
  | none => false
  | some bits => (neededRev code um).le Config.rev && (um &&& tableBits code &&& ~~~bits) == 0

/-- The amount of a clock on the part: `n` where the part has the code with this UNIT_MASK, else the draw (R137 (a), (b)). -/
def amountOnPart (s : State) (code um : BitVec 8) (n : Nat) : Nat :=
  if partHas s code um then n else (Config.draw s.tick).toNat

/-- The privilege level of the clock is selected (R129). -/
abbrev LevelSelected (s : State) (q : Qualifiers) : Prop :=
  (s.lines.cpl = 0 ∧ q.os = true) ∨ (s.lines.cpl ≠ 0 ∧ q.usr = true)

/-- The number of a counter, 0 to 3. -/
def ctrNumber : CtrId → Nat
  | .c0 => 0
  | .c1 => 1
  | .c2 => 2
  | .c3 => 3

/-- The invariant: memory in its canonical form; the reserved bits of every PerfEvtSel zero (R102, D2); every recorded
exception #GP(0) (R305); between clocks the counters' turn is at 0; and a processor with one core moves only core 0. -/
structure Inv (s : State) : Prop where
  memory : memWf s.mem = true
  reserved : ∀ c i, ((s.core c).counter i).sel &&& 0xFFFFFFFF00200000 = 0
  raised : ∀ c t, (s.core c).pendingTrap = some t → t.vector = 13 ∧ t.errorCode = 0
  taken : ∀ c t, (s.core c).savedTrap = some t → t.vector = 13 ∧ t.errorCode = 0
  turn : s.env.agent ≠ .count → s.ctr = .c0
  oneCore : Config.dualCore = false → s.env.core = .core0

/-- `s` with the oracle reporting `n` occurrences for the counter whose turn it is. -/
def reporting (s : State) (n : BitVec 2) : State :=
  { s with env := { s.env with occ := s.env.occ.set s.ctr ⟨n, []⟩ } }

/-- One counter counts under the control word `i` in one clock after another, the oracle reporting the listed numbers. -/
def countRun (i : Instr) : List (BitVec 2) → State → Option State
  | [], s => some s
  | n :: ns, s =>
    match exec i (reporting s n) with
    | .next t => countRun i ns t
    | .fault _ => none
    | .refused _ => none

/-- `n` steps of the machine, as far as they give a next state. -/
def stepTimes : Nat → State → Host.Outcome State Fault Refusal
  | 0, s => .next s
  | n + 1, s =>
    match step s with
    | .next t => stepTimes n t
    | .fault r => .fault r
    | .refused r => .refused r

/-- How often a request of counter `i` of core `c` stands in a list of outputs. -/
def requestCount (c : CoreId) (i : CtrId) (l : List Output) : Nat :=
  l.countP (fun o => o == .apicPerfInt c i)

/-- The amount of counter `i`'s part of the clock, `k` steps after `s`: what its PerfEvtSel selects, or a draw for a
reserved code (R135). -/
def clockAmount (s : State) (i : CtrId) (k : Nat) : Nat :=
  match decodeControl ((s.core s.env.core).counter i).sel with
  | .ok e =>
    match eventOf e with
    | some ev => eventAmount ev (qualifiersOf ((s.core s.env.core).counter i).sel) { s with ctr := i, tick := s.tick + k }
    | none => 0
  | .error _ => (Config.draw (s.tick + k)).toNat

/-- R135's loop body for counter `i` with the inputs of the whole clock. -/
def clockCounter (s : State) (i : CtrId) (k : Nat) : Counter :=
  specCounter (qualifiersOf ((s.core s.env.core).counter i).sel) (s.env.lines s.env.core).cpl (clockAmount s i k)
    ((s.core s.env.core).counter i)

/-- The outputs of R135's loop body for counter `i`. -/
def clockOutputs (s : State) (i : CtrId) (k : Nat) : List Output :=
  specOutputs (qualifiersOf ((s.core s.env.core).counter i).sel) (s.env.lines s.env.core).cpl (clockAmount s i k)
    ((s.core s.env.core).counter i) s.env.core i

end Sys2Proof.Machine
end

