-- ==== Sys2Proof/Certificates/Slice0/Obligations.lean ====
section
/-! DEFINITION. The statements for the provers. Each docstring names the rules and decisions of the spec it rests on, and
the log entry of what is the model's own. -/

open Sys2Proof Sys2Proof.Machine

/-- R75, R73: words of the spec's own tables and examples. -/
def Obligations.DecodeReadsTheSpecsWords : Prop :=
  decode (.bytes [0x0F, 0x30]) = .ok .wrmsr ∧ decode (.bytes [0x0F, 0x32]) = .ok .rdmsr ∧
  decode (.bytes [0x0F, 0x33]) = .ok .rdpmc ∧
  decode (.control 0x00433F00) = .ok (.evt00h ⟨0x3F, true, true, false, false, false, true, false, 0⟩) ∧
  decode (.control 0x00430124) = .ok (.evt24h ⟨0x01, true, true, false, false, false, true, false, 0⟩) ∧
  decode (.control 0x004700CD) = .ok (.evtCDh ⟨0x00, true, true, true, false, false, true, false, 0⟩) ∧
  decode (.control 0x0043B8E9) = .ok (.evtE9h ⟨0xB8, true, true, false, false, false, true, false, 0⟩) ∧
  decode (.control 0x00430003) = .error .reservedEvent

/-- R72, R73, R75, R77: no bit of an encoding is dropped. -/
def Obligations.DecodeUndoesEncode : Prop :=
  ∀ i : Instr, decode (encode i) = .ok i

/-- R72, R73, R76: each word has one meaning. -/
def Obligations.EncodeUndoesDecode : Prop :=
  (∀ (v : Quad) (i : Instr), decodeControl v = .ok i → encode i = .control (v &&& 0x00000000FFDFFFFF)) ∧
  (∀ (b c : Byte) (i : Instr), decodeBytes [b, c] = .ok i → encode i = .bytes [b, c])

/-- R75, D1, D27; the boundary is log entry 10's. -/
def Obligations.StepRunsTheFetchedInstruction : Prop :=
  ∀ (s : State) (i : Instr) (b c : Byte), s.env.agent = .instr → s.lines.halted = false → s.cur.pendingTrap = none →
    memRead s.mem s.cur.pc.toNat = some b → memRead s.mem (s.cur.pc + 1).toNat = some c → decodeBytes [b, c] = .ok i →
    ¬(i = .wrmsr ∧ s.cur.clockOwed = true) →
    step s = match exec i s with
      | .next t => .next { t with ctr := .c0, tick := t.tick + 1, env := nextEnv (t.tick + 1) }
      | .fault r => .fault r
      | .refused r => .refused r

/-- R135, R73; the order of the four parts is log entry 10's. -/
def Obligations.StepRunsTheSelectedEvent : Prop :=
  ∀ (s : State) (i : Instr), s.env.agent = .count → decodeControl (s.cur.counter s.ctr).sel = .ok i →
    step s = match exec i s with
      | .next t => .next (match s.ctr with
        | .c0 => { t with ctr := .c1, tick := t.tick + 1 }
        | .c1 => { t with ctr := .c2, tick := t.tick + 1 }
        | .c2 => { t with ctr := .c3, tick := t.tick + 1 }
        | .c3 =>
          let u := if s.lines.halted then t else t.setCur { t.cur with clockOwed := false }
          { u with ctr := .c0, tick := t.tick + 1, env := nextEnv (t.tick + 1) })
      | .fault r => .fault r
      | .refused r => .refused r

/-- R78, R137 (a), D17. -/
def Obligations.ReservedCodesCountADraw : Prop :=
  ∀ s : State, s.env.agent = .count → s.lines.halted = false →
    decodeControl (s.cur.counter s.ctr).sel = .error .reservedEvent →
    step s = .next (advance (afterCounting s (qualifiersOf (s.cur.counter s.ctr).sel) (Config.draw s.tick).toNat))

/-- R21. -/
def Obligations.CountersStandAtTheirAddresses : Prop :=
  ∀ (a : Word) (i : CtrId), msrAt a = some (.ctr i) ↔ a.toNat = 0xC0010004 + ctrNumber i

/-- R123, R124, R125. -/
def Obligations.ThresholdsFollowTheCounterMask : Prop :=
  ∀ (q : Qualifiers) (n : Nat), n ≤ 3 →
    (q.cntMask = 0 → q.invert = false → threshold q n = n ∧ threshold q n ≤ 3) ∧
    (1 ≤ q.cntMask.toNat → q.cntMask.toNat ≤ 3 → q.invert = false →
      threshold q n = (if n ≥ q.cntMask.toNat then 1 else 0)) ∧
    (1 ≤ q.cntMask.toNat → q.cntMask.toNat ≤ 3 → q.invert = true →
      threshold q n = (if n < q.cntMask.toNat then 1 else 0)) ∧
    (q.cntMask = 1 → threshold q n = (if q.invert = (n == 0) then 1 else 0)) ∧
    (q.cntMask.toNat ≥ 4 ∨ (q.cntMask = 0 ∧ q.invert = true) →
      ∀ rev listed e shared, undefinedConfig rev listed e q shared = true)

/-- R103, R111, R112, D7; R24 gives the addresses. -/
def Obligations.WrmsrWritesAnEventSelectRegister : Prop :=
  ∀ (s : State) (i : CtrId), s.lines.cpl = 0 → s.cur.ecx = selAddress i → s.cur.edx = 0 →
    s.cur.eax.getLsbD 21 = false →
    exec .wrmsr s = .next (s.setCur { s.cur with
      counters := s.cur.counters.set i { s.cur.counter i with sel := 0#32 ++ s.cur.eax }
      pc := s.cur.pc + 2
      clockOwed := true })

/-- R103, R104, R111, R112, D7; R21 gives the addresses. -/
def Obligations.WrmsrWritesACounter : Prop :=
  ∀ (s : State) (i : CtrId), s.lines.cpl = 0 → s.cur.ecx = ctrAddress i → s.cur.edx.extractLsb' 16 16 = 0 →
    exec .wrmsr s = .next (s.setCur { s.cur with
      counters := s.cur.counters.set i { s.cur.counter i with ctr := s.cur.edx.extractLsb' 0 16 ++ s.cur.eax }
      pc := s.cur.pc + 2
      clockOwed := true })

/-- R105, R103, R102, R305, D2, D3, D4: the three policies. The model's own: the owed clock (D7, log entry 10), the pending exception (log entry 6), PerfEvtSel's reserved bits reading 0 (D2, log entry 20). -/
def Obligations.ReservedBitWritesFollowThePolicy : Prop :=
  ∀ (s : State) (i : CtrId) (isSel : Bool), s.lines.cpl = 0 →
    s.cur.ecx = (if isSel then selAddress i else ctrAddress i) →
    (s.cur.edx ++ s.cur.eax : Quad) &&& (if isSel then 0xFFFFFFFF00200000 else 0xFFFF000000000000) ≠ 0 →
    exec .wrmsr s = (match Config.reservedWritePolicy with
      | .refuse => .refused .reservedBitsWritten
      | .ignore => .next (s.setCur { s.cur with
          counters := s.cur.counters.set i (if isSel
            then { s.cur.counter i with sel := (s.cur.edx ++ s.cur.eax : Quad) &&& 0x00000000FFDFFFFF }
            else { s.cur.counter i with ctr := s.cur.edx.extractLsb' 0 16 ++ s.cur.eax })
          pc := s.cur.pc + 2
          clockOwed := true })
      | .raise => .next (withGP s)) ∧
    ∀ k : Core, readMsr k (.evtSel i) &&& 0xFFFFFFFF00200000 = 0 ∧ readMsr k (.ctr i) &&& 0xFFFF000000000000 = 0

/-- R101, R102, R107, R112; the kept upper half is log entry 5's. -/
def Obligations.RdmsrReadsAnEventSelectRegister : Prop :=
  ∀ (s : State) (i : CtrId), s.lines.cpl = 0 → s.cur.ecx = selAddress i →
    exec .rdmsr s = .next (s.setCur { s.cur with
      rax := halfWritten s.lines.longMode s.cur.rax (((s.cur.counter i).sel.extractLsb' 0 32) &&& 0xFFDFFFFF)
      rdx := halfWritten s.lines.longMode s.cur.rdx 0
      pc := s.cur.pc + 2 })

/-- R101, R23, R53, R107, R112; the kept upper half is log entry 5's. -/
def Obligations.RdmsrReadsACounter : Prop :=
  ∀ (s : State) (i : CtrId), s.lines.cpl = 0 → s.cur.ecx = ctrAddress i →
    exec .rdmsr s = .next (s.setCur { s.cur with
      rax := halfWritten s.lines.longMode s.cur.rax ((s.cur.counter i).ctr.extractLsb' 0 32)
      rdx := halfWritten s.lines.longMode s.cur.rdx (0#16 ++ (s.cur.counter i).ctr.extractLsb' 32 16)
      pc := s.cur.pc + 2 })

/-- R106, R107, R109, R112; the kept upper half is log entry 5's. -/
def Obligations.RdpmcReadsACounter : Prop :=
  ∀ (s : State) (i : CtrId), s.lines.cpl = 0 ∨ s.lines.rdpmcUserAllowed = true → s.cur.ecx = pmcIndex i →
    exec .rdpmc s = .next (s.setCur { s.cur with
      rax := halfWritten s.lines.longMode s.cur.rax ((s.cur.counter i).ctr.extractLsb' 0 32)
      rdx := halfWritten s.lines.longMode s.cur.rdx (0#16 ++ (s.cur.counter i).ctr.extractLsb' 32 16)
      pc := s.cur.pc + 2 })

/-- R106: "it reads the same value RDMSR of C001_0004h + n would read at the same moment". -/
def Obligations.RdpmcAndRdmsrReadTheSameValue : Prop :=
  ∀ (s s' : State) (i : CtrId), s' = s.setCur { s.cur with rcx := s'.cur.rcx } → s.lines.cpl = 0 →
    s.cur.ecx = pmcIndex i → s'.cur.ecx = ctrAddress i →
    ∃ t t', exec .rdpmc s = .next t ∧ exec .rdmsr s' = .next t' ∧ t.cur.rax = t'.cur.rax ∧ t.cur.rdx = t'.cur.rdx ∧
      t.cur.pc = t'.cur.pc ∧ t.cur.counters = t'.cur.counters

/-- R109, R305, R306, D12, D13. -/
def Obligations.MissingPrivilegeRaisesGP : Prop :=
  ∀ s : State, s.lines.cpl ≠ 0 → exec .rdmsr s = .next (withGP s) ∧ exec .wrmsr s = .next (withGP s) ∧
    (s.lines.rdpmcUserAllowed = false → exec .rdpmc s = .next (withGP s))

/-- R108, R112, R305, D13. The behaviour is the spec's general knowledge (PRESUMED, log entry 22); the next state with a pending exception is the model's choice (log entry 6). -/
def Obligations.RdpmcOfNoCounterRaisesGP : Prop :=
  ∀ s : State, s.cur.ecx.toNat > 3 → exec .rdpmc s = .next (withGP s)

/-- R52, R101, R103, D11. -/
def Obligations.OtherMsrsAreRefused : Prop :=
  ∀ s : State, s.lines.cpl = 0 → s.cur.ecx.toNat < 0xC0010000 ∨ s.cur.ecx.toNat > 0xC0010007 →
    exec .rdmsr s = .refused .msrOutsideFacility ∧ exec .wrmsr s = .refused .msrOutsideFacility

/-- R112, D27. -/
def Obligations.RegisterInstructionsMovePcOrRaise : Prop :=
  ∀ (s t : State) (i : Instr), i ∈ [Instr.wrmsr, .rdmsr, .rdpmc] → exec i s = .next t →
    (t.cur.pc = s.cur.pc + 2 ∧ t.cur.pendingTrap = s.cur.pendingTrap) ∨
    t = withGP s

/-- R55, R57, R107, R111, D21. -/
def Obligations.RegisterInstructionFrames : Prop :=
  ∀ (s t : State) (i : Instr), i ∈ [Instr.wrmsr, .rdmsr, .rdpmc] → exec i s = .next t →
    t.core s.env.core.other = s.core s.env.core.other ∧ (∀ a, memRead t.mem a = memRead s.mem a) ∧
    t.cur.rcx = s.cur.rcx ∧ t.cur.savedTrap = s.cur.savedTrap ∧ t.env = s.env ∧ t.ctr = s.ctr ∧ t.tick = s.tick ∧
    t.outputs = s.outputs ∧ t.events = s.events ∧
    (i ≠ .wrmsr → t.cur.counters = s.cur.counters ∧ t.cur.clockOwed = s.cur.clockOwed) ∧
    (i = .wrmsr → t.cur.rax = s.cur.rax ∧ t.cur.rdx = s.cur.rdx ∧ ∀ j,
      (t.cur.counter j).prev = (s.cur.counter j).prev ∧ (t.cur.counter j).pin = (s.cur.counter j).pin ∧
      (s.cur.ecx ≠ selAddress j → (t.cur.counter j).sel = (s.cur.counter j).sel) ∧
      (s.cur.ecx ≠ ctrAddress j → (t.cur.counter j).ctr = (s.cur.counter j).ctr))

/-- R8, U9, R121, R123 to R135 on the events without a table (R79), of kind occurrence (R13). -/
def Obligations.EventsWithoutATableCountOccurrences : Prop :=
  ∀ (s : State) (q : Qualifiers) (i : Instr), i ∈ [
      Instr.evt02h q, .evt21h q, .evt22h q, .evt40h q, .evt41h q, .evt45h q, .evt46h q, .evt47h q, .evt48h q,
      .evt49h q, .evt80h q, .evt81h q, .evt82h q, .evt83h q, .evt84h q, .evt85h q, .evt86h q, .evt88h q,
      .evt89h q, .evt26h q, .evt27h q, .evtC0h q, .evtC1h q, .evtC2h q, .evtC3h q, .evtC4h q, .evtC5h q,
      .evtC6h q, .evtC7h q, .evtC8h q, .evtC9h q, .evtCAh q, .evtCFh q, .evtDCh q, .evtDDh q, .evtDEh q,
      .evtDFh q, .evtE1h q] →
    s.lines.halted = false → PlainFieldsDefined q →
    ¬OtherCoreSelectsNorthbridge s →
    exec i s = .next (afterCounting s q
      (amountOnPart s (codeOf i) q.unitMask (specAmount q (s.env.occ.get s.ctr).count.toNat)))

/-- R141: kind cycle; R8, U9. -/
def Obligations.CycleEventsCountTheClocksOfACondition : Prop :=
  ∀ (s : State) (q : Qualifiers) (i : Instr), i ∈ [
      Instr.evt01h q, .evt23h q, .evt87h q, .evtCDh q, .evtCEh q, .evtD0h q, .evtD1h q, .evtD2h q, .evtD3h q,
      .evtD4h q, .evtD5h q, .evtD6h q, .evtD7h q, .evtD8h q, .evtD9h q, .evtDAh q] →
    s.lines.halted = false → PlainFieldsDefined q →
    ¬OtherCoreSelectsNorthbridge s →
    exec i s = .next (afterCounting s q
      (amountOnPart s (codeOf i) q.unitMask (specAmount q (if (s.env.occ.get s.ctr).count = 0 then 0 else 1))))

/-- R242; R8, U9. -/
def Obligations.UnhaltedClocksCountEveryClock : Prop :=
  ∀ (s : State) (q : Qualifiers), s.lines.halted = false → PlainFieldsDefined q →
    ¬OtherCoreSelectsNorthbridge s →
    exec (.evt76h q) s = .next (afterCounting s q (amountOnPart s 0x76 q.unitMask (specAmount q 1)))

/-- R122, R79, R297, R8, U9. -/
def Obligations.TableEventsAddTheSelectedRows : Prop :=
  ∀ (s : State) (q : Qualifiers) (i : Instr) (rows : List (BitVec 8 × Bool)), (i, rows) ∈ [
      (Instr.evt00h q, [(0x01, false), (0x02, false), (0x04, false), (0x08, false), (0x10, false), (0x20, false)]),
      (.evt20h q, [(0x01, false), (0x02, false), (0x04, false), (0x08, false), (0x10, false), (0x20, false), (0x40, false)]),
      (.evt24h q, [(0x01, false), (0x02, true), (0x04, true)]),
      (.evt65h q, [(0x01, false), (0x02, false), (0x80, false)]),
      (.evt42h q, [(0x01, false), (0x02, false), (0x04, false), (0x08, false), (0x10, false)]),
      (.evt43h q, [(0x01, false), (0x02, false), (0x04, false), (0x08, false), (0x10, false)]),
      (.evt44h q, [(0x01, false), (0x02, false), (0x04, false), (0x08, false), (0x10, false)]),
      (.evt4Ah q, [(0x01, false), (0x02, false)]), (.evt4Bh q, [(0x01, false), (0x02, false), (0x04, false)]),
      (.evt4Ch q, [(0x02, false)]), (.evt67h q, [(0x01, false), (0x02, false)]),
      (.evt6Ch q, [(0x01, false), (0x02, false), (0x04, false)]), (.evt6Dh q, [(0x01, false)]),
      (.evt7Dh q, [(0x01, false), (0x02, false), (0x04, false), (0x08, false), (0x10, false)]),
      (.evt7Eh q, [(0x01, false), (0x02, false), (0x04, false)]), (.evt7Fh q, [(0x01, false), (0x02, false)]),
      (.evtCBh q, [(0x01, false), (0x02, false), (0x04, false), (0x08, false)]),
      (.evtCCh q, [(0x01, false), (0x02, false), (0x04, false)]),
      (.evtDBh q, [(0x01, false), (0x02, false), (0x04, false), (0x08, false)]),
      (.evtE0h q, [(0x01, false), (0x02, false), (0x04, false)]),
      (.evtE3h q, [(0x01, false), (0x02, false), (0x04, false)]),
      (.evtE4h q, [(0x01, false), (0x02, false), (0x04, false), (0x08, false)]),
      (.evtE5h q, [(0x04, false), (0x08, false), (0x10, false), (0x20, false)]), (.evtE8h q, [(0x80, false)]),
      (.evtEAh q, [(0x01, false), (0x04, false), (0x08, false), (0x10, false), (0x20, false)]),
      (.evtEBh q, [(0x01, false), (0x02, false), (0x04, false), (0x08, false), (0x10, false), (0x20, false), (0x40, false)]),
      (.evtECh q, [(0x01, false), (0x02, false), (0x04, false), (0x08, false), (0x10, false), (0x20, false), (0x40, false)]),
      (.evtEEh q, [(0x01, false), (0x02, false), (0x04, false)]),
      (.evtF6h q, [(0x01, false), (0x02, false), (0x04, false), (0x08, false)]),
      (.evtF7h q, [(0x01, false), (0x02, false), (0x04, false), (0x08, false)]),
      (.evtF8h q, [(0x01, false), (0x02, false), (0x04, false), (0x08, false)])] →
    s.lines.halted = false → PlainFieldsDefined q →
    ¬OtherCoreSelectsNorthbridge s →
    q.unitMask &&& ~~~(rows.foldr (fun r m => r.1 ||| m) 0) = 0 →
    exec i s = .next (afterCounting s q (amountOnPart s (codeOf i) q.unitMask
      (specAmount q (min 3 (selectedSum q.unitMask rows (s.env.occ.get s.ctr).lanes)))))

/-- R287, R297, R8: the supported paths. With none of them selected the count is a draw (U7, log entry 16). -/
def Obligations.RequestFlowEventCountsTheSupportedPaths : Prop :=
  ∀ (s : State) (q : Qualifiers), s.lines.halted = false → PlainFieldsDefined q →
    ¬OtherCoreSelectsNorthbridge s →
    (∃ p ∈ requestPaths, q.unitMask &&& p = p) →
    exec (.evtE9h q) s = .next (afterCounting s q (amountOnPart s 0xE9 q.unitMask (specAmount q
      (min 3 (selectedSum q.unitMask (requestPaths.map fun p => (p, false)) (s.env.occ.get s.ctr).lanes)))))

/-- R137 (c), (d), R80, D8. -/
def Obligations.ReservedFieldsCountADraw : Prop :=
  ∀ (s : State) (q : Qualifiers) (i : Instr), qualifiers i = some q → s.lines.halted = false →
    q.cntMask.toNat ≥ 4 ∨ (q.cntMask = 0 ∧ q.invert = true) →
    exec i s = .next (afterCounting s q (Config.draw s.tick).toNat)

/-- R137 (b), R79, R287, U7, D18. -/
def Obligations.UndefinedUnitMasksCountADraw : Prop :=
  ∀ (s : State) (q : Qualifiers), s.lines.halted = false →
    (∀ (i : Instr) (defined : BitVec 8), (i, defined) ∈ [
        (Instr.evt00h q, 0x3F), (.evt20h q, 0x7F), (.evt24h q, 0x07), (.evt65h q, 0x83), (.evt42h q, 0x1F),
        (.evt43h q, 0x1F), (.evt44h q, 0x1F), (.evt4Ah q, 0x03), (.evt4Bh q, 0x07), (.evt4Ch q, 0x02),
        (.evt67h q, 0x03), (.evt6Ch q, 0x07), (.evt6Dh q, 0x01), (.evt7Dh q, 0x1F), (.evt7Eh q, 0x07),
        (.evt7Fh q, 0x03), (.evtCBh q, 0x0F), (.evtCCh q, 0x07), (.evtDBh q, 0x0F), (.evtE0h q, 0x07),
        (.evtE3h q, 0x07), (.evtE4h q, 0x0F), (.evtE5h q, 0x3C), (.evtE8h q, 0x80), (.evtE9h q, 0xFF),
        (.evtEAh q, 0x3D), (.evtEBh q, 0x7F), (.evtECh q, 0x7F), (.evtEEh q, 0x07), (.evtF6h q, 0x0F),
        (.evtF7h q, 0x0F), (.evtF8h q, 0x0F)] →
      q.unitMask &&& ~~~defined ≠ 0 → exec i s = .next (afterCounting s q (Config.draw s.tick).toNat)) ∧
    (q.unitMask.extractLsb' 0 4 = 0 ∨ q.unitMask.extractLsb' 6 2 = 0 ∨ q.unitMask.extractLsb' 4 2 = 0 ∨
        (∀ p ∈ requestPaths, q.unitMask &&& p ≠ p) →
      exec (.evtE9h q) s = .next (afterCounting s q (Config.draw s.tick).toNat))

/-- R316, R137 (e), D23. -/
def Obligations.NorthbridgeEventOnTheOtherCoreGivesADraw : Prop :=
  ∀ (s : State) (q : Qualifiers) (i : Instr), qualifiers i = some q → s.lines.halted = false →
    OtherCoreSelectsNorthbridge s →
    ∃ a, exec i s = .next (afterCounting s q (if Config.dualCore then (Config.draw s.tick).toNat else a))

/-- R136, R320, R321, D24. -/
def Obligations.HaltedCoresCountNothing : Prop :=
  (∀ s : State, s.env.agent = .count → s.lines.halted = true →
    ∃ t, step s = .next t ∧ (∀ c, t.core c = s.core c) ∧ t.outputs = s.outputs) ∧
  (∀ (s : State) (q : Qualifiers), s.lines.halted = true →
    (∀ i, qualifiers i = some q → exec i s = .next s) ∧ countReserved q s = s) ∧
  (∀ (s : State) (q : Qualifiers), s.lines.halted = false → PlainFieldsDefined q → ¬OtherCoreSelectsNorthbridge s →
    exec (.evt76h q) s = .next (afterCounting s q (amountOnPart s 0x76 q.unitMask (specAmount q 1))))

/-- R135, R138: the frame of every event. -/
def Obligations.EveryEventCountsByR135AndChangesNothingElse : Prop :=
  ∀ (s : State) (q : Qualifiers) (i : Instr), qualifiers i = some q → s.lines.halted = false →
    ∃ (t : State) (a : Nat), exec i s = .next t ∧ a ≤ 3 ∧
      t.cur.counter s.ctr = specCounter q s.lines.cpl a (s.cur.counter s.ctr) ∧
      t.outputs = s.outputs ++ specOutputs q s.lines.cpl a (s.cur.counter s.ctr) s.env.core s.ctr ∧
      (∀ j, j ≠ s.ctr → t.cur.counter j = s.cur.counter j) ∧ (∀ j, (t.cur.counter j).sel = (s.cur.counter j).sel) ∧
      t.core s.env.core.other = s.core s.env.core.other ∧ (∀ x, memRead t.mem x = memRead s.mem x) ∧
      t.cur.rax = s.cur.rax ∧ t.cur.rcx = s.cur.rcx ∧ t.cur.rdx = s.cur.rdx ∧ t.cur.pc = s.cur.pc ∧
      t.cur.pendingTrap = s.cur.pendingTrap ∧ t.cur.savedTrap = s.cur.savedTrap ∧
      t.cur.clockOwed = s.cur.clockOwed ∧ t.env = s.env ∧ t.ctr = s.ctr ∧ t.tick = s.tick ∧
      t.events = s.events

/-- R129, R138 (2), R27, R28, R33, D9. -/
def Obligations.ClosedGateKeepsTheCounter : Prop :=
  ∀ (s : State) (q : Qualifiers) (i : Instr), qualifiers i = some q →
    q.enable = false ∨ (s.lines.cpl = 0 ∧ q.os = false) ∨ (s.lines.cpl ≠ 0 ∧ q.usr = false) →
    ∃ t, exec i s = .next t ∧ (t.cur.counter s.ctr).ctr = (s.cur.counter s.ctr).ctr ∧
      (t.cur.counter s.ctr).pin = (s.cur.counter s.ctr).pin ∧ t.outputs = s.outputs

/-- R138 (3) in the configurations that R137 leaves defined. -/
def Obligations.EdgeModeAndThresholdsAdvanceByAtMostOne : Prop :=
  ∀ (s : State) (q : Qualifiers) (i : Instr), qualifiers i = some q →
    ∃ (t : State) (d : Nat), exec i s = .next t ∧
      (t.cur.counter s.ctr).ctr.toNat = ((s.cur.counter s.ctr).ctr.toNat + d) % 2 ^ 48 ∧ d ≤ 3 ∧
      (q.edge = true → d ≤ 1) ∧
      (1 ≤ q.cntMask.toNat → q.cntMask.toNat ≤ 3 → UnitMaskDefined (codeOf i) q.unitMask →
        ¬OtherCoreSelectsNorthbridge s → d ≤ amountOnPart s (codeOf i) q.unitMask 1)

/-- R130, R131, R133, R134. The wrap is D5, the single toggle D16 (log entry 24). Reserved codes: ReservedCodesCountADraw. -/
def Obligations.OverflowRequestsAndPinToggles : Prop :=
  ∀ (s : State) (q : Qualifiers) (i : Instr), qualifiers i = some q → s.lines.halted = false →
    ∃ (t : State) (d : Nat) (l : List Output), exec i s = .next t ∧ d ≤ 3 ∧ (q.enable = false → d = 0) ∧
      (t.cur.counter s.ctr).ctr.toNat = ((s.cur.counter s.ctr).ctr.toNat + d) % 2 ^ 48 ∧ t.outputs = s.outputs ++ l ∧
      (Output.apicPerfInt s.env.core s.ctr ∈ l ↔ (s.cur.counter s.ctr).ctr.toNat + d ≥ 2 ^ 48 ∧ q.intEnable = true) ∧
      (Output.togglePM s.env.core s.ctr ∈ l ↔ (q.pinControl = true ∧ (s.cur.counter s.ctr).ctr.toNat + d ≥ 2 ^ 48) ∨
        (q.pinControl = false ∧ d > 0)) ∧
      (t.cur.counter s.ctr).pin = ((s.cur.counter s.ctr).pin ^^ decide (Output.togglePM s.env.core s.ctr ∈ l)) ∧
      l.Nodup ∧ ∀ o ∈ l, o = .apicPerfInt s.env.core s.ctr ∨ o = .togglePM s.env.core s.ctr

/-- R138 (7), R120. -/
def Obligations.CountersDoNotAffectEachOther : Prop :=
  ∀ (s s' : State) (q : Qualifiers) (i : Instr), qualifiers i = some q → s.env = s'.env → s.ctr = s'.ctr →
    s.tick = s'.tick → s.events = s'.events → s.cur.counter s.ctr = s'.cur.counter s'.ctr →
    ((s.core s.env.core.other).counter s.ctr).sel = ((s'.core s'.env.core.other).counter s'.ctr).sel →
    ∃ (t t' : State) (l : List Output), exec i s = .next t ∧ exec i s' = .next t' ∧
      t.cur.counter s.ctr = t'.cur.counter s'.ctr ∧ t.outputs = s.outputs ++ l ∧ t'.outputs = s'.outputs ++ l

/-- R135, R120, D20; the order of the four parts is log entry 10's. -/
def Obligations.FourStepsAreOneClockOfR135 : Prop :=
  ∀ s : State, s.env.agent = .count → s.ctr = .c0 → s.lines.halted = false →
    stepTimes 4 s = .next
      { s.setCur { s.cur with
          counters := ⟨clockCounter s .c0 0, clockCounter s .c1 1, clockCounter s .c2 2, clockCounter s .c3 3⟩
          clockOwed := false } with
        ctr := .c0
        tick := s.tick + 4
        env := nextEnv (s.tick + 4)
        outputs := s.outputs ++ clockOutputs s .c0 0 ++ clockOutputs s .c1 1 ++ clockOutputs s .c2 2 ++
          clockOutputs s .c3 3 }

/-- R130, R131, R133, R104, R74; the wrap is D5 (log entry 24). -/
def Obligations.PreloadedCounterOverflowsAfterItsUnits : Prop :=
  ∀ (q : Qualifiers) (s : State) (i : Instr) (ns : List (BitVec 2)), i ∈ [
      Instr.evt02h q, .evt21h q, .evt22h q, .evt40h q, .evt41h q, .evt45h q, .evt46h q, .evt47h q, .evt48h q,
      .evt49h q, .evt80h q, .evt81h q, .evt82h q, .evt83h q, .evt84h q, .evt85h q, .evt86h q, .evt88h q,
      .evt89h q, .evt26h q, .evt27h q, .evtC0h q, .evtC1h q, .evtC2h q, .evtC3h q, .evtC4h q, .evtC5h q,
      .evtC6h q, .evtC7h q, .evtC8h q, .evtC9h q, .evtCAh q, .evtCFh q, .evtDCh q, .evtDDh q, .evtDEh q,
      .evtDFh q, .evtE1h q] →
    q.edge = false → q.enable = true → q.cntMask = 0 → q.invert = false → LevelSelected s q →
    s.lines.halted = false → ¬OtherCoreSelectsNorthbridge s →
    ∃ t, countRun i ns s = some t ∧
      (t.cur.counter s.ctr).ctr.toNat = ((s.cur.counter s.ctr).ctr.toNat +
        (ns.map fun n => amountOnPart s (codeOf i) q.unitMask n.toNat).sum) % 2 ^ 48 ∧
      requestCount s.env.core s.ctr t.outputs = requestCount s.env.core s.ctr s.outputs +
        (if q.intEnable then ((s.cur.counter s.ctr).ctr.toNat +
          (ns.map fun n => amountOnPart s (codeOf i) q.unitMask n.toNat).sum) / 2 ^ 48 else 0)

/-- R128, R337: the false edge. -/
def Obligations.EventChangedWhileEnabledCountsOneFalseEdge : Prop :=
  ∀ (s : State) (q : Qualifiers) (e : Env), q.edge = true → q.enable = true → LevelSelected s q →
    q.cntMask = 0 → q.invert = false → s.lines.halted = false → ¬OtherCoreSelectsNorthbridge s →
    (s.cur.counter s.ctr).prev = false → e.core = s.env.core → (e.lines e.core).halted = false →
    ∃ t u, exec (.evt76h q) s = .next t ∧ exec (.evt76h q) { t with env := e } = .next u ∧
      (t.cur.counter s.ctr).ctr =
        (s.cur.counter s.ctr).ctr + (if amountOnPart s 0x76 q.unitMask 1 = 0 then 0 else 1) ∧
      (u.cur.counter s.ctr).ctr = (t.cur.counter s.ctr).ctr

/-- R128, R334, D7. -/
def Obligations.TwoWriteProcedureCountsNoFalseEdge : Prop :=
  ∀ (s : State) (q : Qualifiers) (e : Env), q.edge = true → q.cntMask = 0 → q.invert = false →
    s.lines.halted = false → ¬OtherCoreSelectsNorthbridge s → e.core = s.env.core → (e.lines e.core).halted = false →
    ∃ t u, exec (.evt76h { q with enable := false }) s = .next t ∧
      exec (.evt76h { q with enable := true }) { t with env := e } = .next u ∧
      (u.cur.counter s.ctr).ctr = (s.cur.counter s.ctr).ctr ∧ u.outputs = s.outputs

/-- R46, R330; the values are log entries 1 to 4's. -/
def Obligations.ResetMeetsTheInvariant : Prop :=
  Inv State.reset

/-- D2, R102, R305, R55. -/
def Obligations.EveryStepKeepsTheInvariant : Prop :=
  ∀ s t : State, Inv s → step s = .next t → Inv t

/-- R55. -/
def Obligations.NoStepChangesMemory : Prop :=
  (∀ (s t : State) (a : Nat), step s = .next t → memRead t.mem a = memRead s.mem a) ∧
  (∀ (i : Instr) (s : State) (m : List Host.Cell), exec i { s with mem := m } = match exec i s with
    | .next t => .next { t with mem := m }
    | .fault r => .fault r
    | .refused r => .refused r)

/-- R8, U9, R77, R79; that it stands in State is log entry 28's. -/
def Obligations.NoStepChangesThePart : Prop :=
  (∀ s t : State, step s = .next t → t.events = s.events) ∧
  ∀ code : BitVec 8, State.reset.events.bitsOf code =
    if (instrOfCode code (qualifiersOf 0)).isSome then some (tableBits code) else none

/-- R37, R132, R138 (6). -/
def Obligations.HardwareNeverWritesPerfEvtSel : Prop :=
  ∀ (s t : State) (c : CoreId) (i : CtrId), step s = .next t →
    ((t.core c).counter i).sel ≠ ((s.core c).counter i).sel →
    s.env.agent = .instr ∧ c = s.env.core ∧ s.lines.cpl = 0 ∧ fetched s = .ok .wrmsr ∧ s.cur.ecx = selAddress i

/-- R22, R130, R66. -/
def Obligations.CountersChangeOnlyByCountingOrWrmsr : Prop :=
  ∀ (s t : State) (c : CoreId) (i : CtrId), step s = .next t →
    ((t.core c).counter i).ctr ≠ ((s.core c).counter i).ctr →
    (s.env.agent = .count ∧ c = s.env.core ∧ i = s.ctr ∧ s.lines.halted = false ∧
      ∃ d, 1 ≤ d ∧ d ≤ 3 ∧ ((t.core c).counter i).ctr.toNat = (((s.core c).counter i).ctr.toNat + d) % 2 ^ 48) ∨
    (s.env.agent = .instr ∧ c = s.env.core ∧ s.lines.cpl = 0 ∧ fetched s = .ok .wrmsr ∧ s.cur.ecx = ctrAddress i)

/-- R138 (5), R300. -/
def Obligations.RequestsComeOnlyFromOverflows : Prop :=
  ∀ (s t : State) (l : List Output) (c : CoreId) (i : CtrId), step s = .next t → t.outputs = s.outputs ++ l →
    Output.apicPerfInt c i ∈ l →
    s.env.agent = .count ∧ c = s.env.core ∧ i = s.ctr ∧ s.lines.halted = false ∧
      (s.cur.counter i).sel.getLsbD 22 = true ∧ (s.cur.counter i).sel.getLsbD 20 = true ∧
      ∃ d, d ≤ 3 ∧ ((s.core c).counter i).ctr.toNat + d ≥ 2 ^ 48 ∧
        ((t.core c).counter i).ctr.toNat = (((s.core c).counter i).ctr.toNat + d) % 2 ^ 48

/-- R301, D15, D21. -/
def Obligations.OutputsAreNeverWithdrawn : Prop :=
  ∀ s t : State, step s = .next t → ∃ l, t.outputs = s.outputs ++ l ∧ l.length ≤ 2

/-- R312, R109. -/
def Obligations.UserModeInstructionsCannotChangeTheFacility : Prop :=
  ∀ s t : State, s.env.agent = .instr → s.lines.cpl ≠ 0 → step s = .next t →
    (∀ c, (t.core c).counters = (s.core c).counters) ∧ t.outputs = s.outputs

/-- R128, D7; log entry 10. -/
def Obligations.SecondWrmsrWaitsForAClock : Prop :=
  ∀ s : State, s.env.agent = .instr → s.lines.halted = false → s.cur.pendingTrap = none → fetched s = .ok .wrmsr →
    s.cur.clockOwed = true →
    step s = .next { s with ctr := .c0, tick := s.tick + 1, env := nextEnv (s.tick + 1) }

/-- R305, R307; the model's choice, log entry 6. -/
def Obligations.RaisedExceptionIsTaken : Prop :=
  ∀ (s : State) (e : Trap), s.env.agent = .instr → s.lines.halted = false → s.cur.pendingTrap = some e →
    step s = .next { s.setCur { s.cur with pendingTrap := none, savedTrap := some e, pc := Config.trapTarget s.tick } with
      ctr := .c0, tick := s.tick + 1, env := nextEnv (s.tick + 1) }

/-- R301, R304, D15; the model's choice, log entry 7. -/
def Obligations.RequestedInterruptMayBeRecognised : Prop :=
  ∀ s : State, s.env.agent = .interrupt →
    ((∃ i, Output.apicPerfInt s.env.core i ∈ s.outputs) →
      step s = .next { s.setCur { s.cur with pc := Config.trapTarget s.tick } with
        ctr := .c0, tick := s.tick + 1, env := nextEnv (s.tick + 1) }) ∧
    ((∀ i, Output.apicPerfInt s.env.core i ∉ s.outputs) →
      step s = .next { s with ctr := .c0, tick := s.tick + 1, env := nextEnv (s.tick + 1) })

/-- R320; DEDUCED, log entry 8. -/
def Obligations.HaltedInstructionAgentIdles : Prop :=
  ∀ s : State, s.env.agent = .instr → s.lines.halted = true →
    step s = .next { s with ctr := .c0, tick := s.tick + 1, env := nextEnv (s.tick + 1) }

/-- R76, R83, D11; the fault is log entry 9's. -/
def Obligations.OtherInstructionsAreRefused : Prop :=
  ∀ s : State, s.env.agent = .instr → s.lines.halted = false → s.cur.pendingTrap = none →
    (∀ b, memRead s.mem s.cur.pc.toNat = some b → b ≠ 0x0F → step s = .refused .instructionOutsideSpec) ∧
    (∀ c, memRead s.mem s.cur.pc.toNat = some 0x0F → memRead s.mem (s.cur.pc + 1).toNat = some c →
      c ≠ 0x30 → c ≠ 0x32 → c ≠ 0x33 → step s = .refused .instructionOutsideSpec) ∧
    (memRead s.mem s.cur.pc.toNat = none → step s = .fault .fetchAbsent) ∧
    (memRead s.mem s.cur.pc.toNat = some 0x0F → memRead s.mem (s.cur.pc + 1).toNat = none →
      step s = .fault .fetchAbsent)

/-- R46, R330; the values are the model's, log entries 1, 2, 4. -/
def Obligations.ResetLeavesTheCountersDisabled : Prop :=
  State.reset.outputs = [] ∧ ∀ c i, (State.reset.core c).counter i = { sel := 0, ctr := 0, prev := false, pin := false } ∧
    (State.reset.env.lines c).cpl = 0 ∧ (State.reset.env.lines c).halted = false
end

