-- ==== Sys2Proof/Laws/Decode.lean ====
section
/-! SUPPORT. What assembling and taking apart a control word do to each other, field by field. -/

namespace Sys2Proof

theorem lt_eight {i : Nat} (h : i < 8) : i = 0 ∨ i = 1 ∨ i = 2 ∨ i = 3 ∨ i = 4 ∨ i = 5 ∨ i = 6 ∨ i = 7 := by
  omega

/-- EVENT_SELECT of an assembled word is the code. -/
@[simp] theorem eventCode_assemble (code : BitVec 8) (q : Qualifiers) : eventCode (assemble code q) = code := by
  unfold eventCode assemble
  apply BitVec.eq_of_getLsbD_eq
  intro i hi
  rcases lt_eight hi with rfl | rfl | rfl | rfl | rfl | rfl | rfl | rfl <;> simp

/-- The fields of an assembled word are the fields. -/
@[simp] theorem qualifiersOf_assemble (code : BitVec 8) (q : Qualifiers) : qualifiersOf (assemble code q) = q := by
  cases q
  simp only [qualifiersOf, assemble, Qualifiers.mk.injEq]
  refine ⟨?_, ?_, ?_, ?_, ?_, ?_, ?_, ?_, ?_⟩
  case refine_1 | refine_9 =>
    apply BitVec.eq_of_getLsbD_eq
    intro i hi
    rcases lt_eight hi with rfl | rfl | rfl | rfl | rfl | rfl | rfl | rfl <;> simp
  all_goals simp

end Sys2Proof
end

