-- ==== Sys2Proof/Laws/State.lean ====
section
/-! SUPPORT. One lemma per field per update, so that no proof unfolds an update. -/

namespace Sys2Proof

@[simp] theorem Bank.get_set_same {α : Type} (b : Bank α) (i : CtrId) (a : α) : (b.set i a).get i = a := by
  cases i <;> rfl

theorem Bank.get_set {α : Type} (b : Bank α) (i j : CtrId) (a : α) :
    (b.set i a).get j = if j = i then a else b.get j := by
  cases i <;> cases j <;> rfl

@[simp] theorem CoreId.other_other (c : CoreId) : c.other.other = c := by
  cases c <;> rfl

@[simp] theorem CoreId.other_ne (c : CoreId) : c.other ≠ c := by
  cases c <;> decide

@[simp] theorem Env.lines_setLines (e : Env) (c : CoreId) (l : CoreEnv) : (e.setLines c l).lines c = l := by
  cases c <;> rfl

end Sys2Proof

namespace Sys2Proof.Machine

theorem State.core_setCore (s : State) (c d : CoreId) (k : Core) :
    (s.setCore c k).core d = if d = c then k else s.core d := by
  cases c <;> cases d <;> rfl

@[simp] theorem State.core_setCore_same (s : State) (c : CoreId) (k : Core) : (s.setCore c k).core c = k := by
  cases c <;> rfl

@[simp] theorem State.core_setCore_other (s : State) (c : CoreId) (k : Core) :
    (s.setCore c k).core c.other = s.core c.other := by
  cases c <;> rfl

@[simp] theorem State.mem_setCore (s : State) (c : CoreId) (k : Core) : (s.setCore c k).mem = s.mem := by
  cases c <;> rfl

@[simp] theorem State.env_setCore (s : State) (c : CoreId) (k : Core) : (s.setCore c k).env = s.env := by
  cases c <;> rfl

@[simp] theorem State.ctr_setCore (s : State) (c : CoreId) (k : Core) : (s.setCore c k).ctr = s.ctr := by
  cases c <;> rfl

@[simp] theorem State.tick_setCore (s : State) (c : CoreId) (k : Core) : (s.setCore c k).tick = s.tick := by
  cases c <;> rfl

@[simp] theorem State.outputs_setCore (s : State) (c : CoreId) (k : Core) : (s.setCore c k).outputs = s.outputs := by
  cases c <;> rfl

@[simp] theorem State.events_setCore (s : State) (c : CoreId) (k : Core) : (s.setCore c k).events = s.events := by
  cases c <;> rfl

@[simp] theorem State.cur_setCur (s : State) (k : Core) : (s.setCur k).cur = k := by
  unfold State.setCur State.cur
  rw [State.env_setCore, State.core_setCore_same]

theorem State.core_setCur (s : State) (c : CoreId) (k : Core) :
    (s.setCur k).core c = if c = s.env.core then k else s.core c :=
  State.core_setCore s s.env.core c k

@[simp] theorem State.mem_setCur (s : State) (k : Core) : (s.setCur k).mem = s.mem :=
  State.mem_setCore s _ k

@[simp] theorem State.env_setCur (s : State) (k : Core) : (s.setCur k).env = s.env :=
  State.env_setCore s _ k

@[simp] theorem State.ctr_setCur (s : State) (k : Core) : (s.setCur k).ctr = s.ctr :=
  State.ctr_setCore s _ k

@[simp] theorem State.tick_setCur (s : State) (k : Core) : (s.setCur k).tick = s.tick :=
  State.tick_setCore s _ k

@[simp] theorem State.outputs_setCur (s : State) (k : Core) : (s.setCur k).outputs = s.outputs :=
  State.outputs_setCore s _ k

@[simp] theorem State.events_setCur (s : State) (k : Core) : (s.setCur k).events = s.events :=
  State.events_setCore s _ k

@[simp] theorem State.lines_setCur (s : State) (k : Core) : (s.setCur k).lines = s.lines := by
  unfold State.lines
  rw [State.env_setCur]

@[simp] theorem State.core_withOutputs (s : State) (l : List Output) (c : CoreId) :
    ({ s with outputs := l } : State).core c = s.core c := by
  cases c <;> rfl

@[simp] theorem State.core_withTurn (s : State) (i : CtrId) (n : Nat) (c : CoreId) :
    ({ s with ctr := i, tick := n } : State).core c = s.core c := by
  cases c <;> rfl

@[simp] theorem State.core_withEnv (s : State) (e : Env) (c : CoreId) : ({ s with env := e } : State).core c = s.core c := by
  cases c <;> rfl

@[simp] theorem Core.counter_setCounter_same (k : Core) (i : CtrId) (n : Counter) : (k.setCounter i n).counter i = n :=
  Bank.get_set_same _ _ _

theorem Core.counter_setCounter (k : Core) (i j : CtrId) (n : Counter) :
    (k.setCounter i n).counter j = if j = i then n else k.counter j :=
  Bank.get_set _ _ _ _

@[simp] theorem Core.rax_setCounter (k : Core) (i : CtrId) (n : Counter) : (k.setCounter i n).rax = k.rax := rfl
@[simp] theorem Core.rcx_setCounter (k : Core) (i : CtrId) (n : Counter) : (k.setCounter i n).rcx = k.rcx := rfl
@[simp] theorem Core.rdx_setCounter (k : Core) (i : CtrId) (n : Counter) : (k.setCounter i n).rdx = k.rdx := rfl
@[simp] theorem Core.pc_setCounter (k : Core) (i : CtrId) (n : Counter) : (k.setCounter i n).pc = k.pc := rfl
@[simp] theorem Core.pendingTrap_setCounter (k : Core) (i : CtrId) (n : Counter) :
    (k.setCounter i n).pendingTrap = k.pendingTrap := rfl
@[simp] theorem Core.savedTrap_setCounter (k : Core) (i : CtrId) (n : Counter) :
    (k.setCounter i n).savedTrap = k.savedTrap := rfl
@[simp] theorem Core.clockOwed_setCounter (k : Core) (i : CtrId) (n : Counter) :
    (k.setCounter i n).clockOwed = k.clockOwed := rfl

@[simp] theorem Core.pc_pastInstr (k : Core) : k.pastInstr.pc = k.pc + 2 := rfl
@[simp] theorem Core.counters_pastInstr (k : Core) : k.pastInstr.counters = k.counters := rfl
@[simp] theorem Core.counter_pastInstr (k : Core) (i : CtrId) : k.pastInstr.counter i = k.counter i := rfl
@[simp] theorem Core.rax_pastInstr (k : Core) : k.pastInstr.rax = k.rax := rfl
@[simp] theorem Core.rcx_pastInstr (k : Core) : k.pastInstr.rcx = k.rcx := rfl
@[simp] theorem Core.rdx_pastInstr (k : Core) : k.pastInstr.rdx = k.rdx := rfl

@[simp] theorem Core.counters_writePair (k : Core) (b : Bool) (v : Quad) : (k.writePair b v).counters = k.counters := rfl
@[simp] theorem Core.counter_writePair (k : Core) (b : Bool) (v : Quad) (i : CtrId) :
    (k.writePair b v).counter i = k.counter i := rfl
@[simp] theorem Core.rcx_writePair (k : Core) (b : Bool) (v : Quad) : (k.writePair b v).rcx = k.rcx := rfl
@[simp] theorem Core.pc_writePair (k : Core) (b : Bool) (v : Quad) : (k.writePair b v).pc = k.pc := rfl
@[simp] theorem Core.rax_writePair (k : Core) (b : Bool) (v : Quad) :
    (k.writePair b v).rax = writeLow32 b k.rax (low32 v) := rfl
@[simp] theorem Core.rdx_writePair (k : Core) (b : Bool) (v : Quad) :
    (k.writePair b v).rdx = writeLow32 b k.rdx (high32 v) := rfl

end Sys2Proof.Machine
end

