-- ==== Sys2Proof/Laws/Ops.lean ====
section
/-! SUPPORT. What each shared operation can do, said once. -/

namespace Sys2Proof.Machine

/-- The increment of the machine's step is the rules'. -/
theorem increment_eq_spec (q : Qualifiers) (cpl : BitVec 2) (prev : Bool) (a : Nat) :
    increment q cpl prev a = specInc q cpl prev a := by
  have hz : (cpl == 0) = decide (cpl.toNat = 0) := by
    rw [Bool.eq_iff_iff, beq_iff_eq, decide_eq_true_iff, ← BitVec.toNat_inj]
    rfl
  have hn : (cpl != 0) = decide (0 < cpl.toNat) := by
    rw [bne, hz, ← decide_not]
    exact decide_eq_decide.mpr Nat.pos_iff_ne_zero.symm
  unfold increment specInc gateOpen modeSelected candidate signal
  rw [hz, hn]
  cases prev <;> cases q.enable <;> cases q.edge <;> simp

/-- The threshold of the machine's step is the rules'. -/
theorem threshold_eq_spec (q : Qualifiers) (n : Nat) : threshold q n = specAmount q n := by
  have hz : (q.cntMask = 0) = (q.cntMask.toNat = 0) := by
    rw [← BitVec.toNat_inj]
    rfl
  unfold threshold specAmount
  simp only [hz]
  cases q.invert <;> simp

/-- One counter's part of a step gives R135's counter and R135's outputs. -/
theorem countCounter_eq_spec (q : Qualifiers) (cpl : BitVec 2) (a : Nat) (n : Counter) (c : CoreId) (i : CtrId) :
    (countCounter a q cpl n).counter = specCounter q cpl a n ∧
      (countCounter a q cpl n).events c i = specOutputs q cpl a n c i := by
  unfold countCounter specCounter specOutputs CountResult.events
  simp only [increment_eq_spec]
  generalize specInc q cpl n.prev a = inc
  have hpin : togglesPin q inc (overflows n.ctr inc) = decide (SpecToggles q n.ctr.toNat inc) := by
    unfold togglesPin overflows SpecToggles
    cases q.pinControl <;> simp [bne, Nat.pos_iff_ne_zero, beq_eq_decide]
  have hreq : requestsInterrupt q (overflows n.ctr inc) = decide (SpecRequests q n.ctr.toNat inc) := by
    unfold requestsInterrupt overflows SpecRequests
    cases q.intEnable <;> simp
  have hctr : counted n.ctr inc = BitVec.ofNat 48 ((n.ctr.toNat + inc) % 2 ^ 48) := by
    apply BitVec.eq_of_toNat_eq
    simp [counted]
  refine ⟨?_, ?_⟩
  · rw [hpin, hctr]
    congr 1
    · simp [signal, bne, beq_eq_decide]
    · by_cases h : SpecToggles q n.ctr.toNat inc <;> simp [h]
  · rw [hpin, hreq]
    simp only [decide_eq_true_eq]

/-- Counting an amount changes that counter and the outputs, as R135 says, and nothing else. -/
theorem applyAmount_eq (a : Nat) (q : Qualifiers) (s : State) : applyAmount a q s = afterCounting s q a := by
  unfold applyAmount afterCounting
  obtain ⟨h1, h2⟩ := countCounter_eq_spec q s.lines.cpl a (s.cur.counter s.ctr) s.env.core s.ctr
  simp only [h1, h2]
  rfl

/-- An event's meaning in the core's unhalted clock. -/
theorem countEvent_unhalted {s : State} (e : Event) (q : Qualifiers) (h : s.lines.halted = false) :
    countEvent e q s = afterCounting s q (eventAmount e q s) := by
  simp [countEvent, h, applyAmount_eq]

/-- An event's meaning while the core is halted. -/
theorem countEvent_halted {s : State} (e : Event) (q : Qualifiers) (h : s.lines.halted = true) : countEvent e q s = s := by
  simp [countEvent, h]

/-- Every control word's meaning is the counting step on its own catalogue entry. -/
theorem exec_event {i : Instr} {e : Event} {q : Qualifiers} (he : eventOf i = some e) (hq : qualifiers i = some q)
    (s : State) : exec i s = .next (countEvent e q s) := by
  cases i <;> first | (cases he; done) | (cases he; cases hq; rfl)

/-- Everything a WRMSR can do. -/
theorem execWrmsr_cases {s t : State} (h : exec .wrmsr s = .next t) :
    t = raiseGP s ∨ (s.lines.cpl = 0 ∧ ∃ r, msrAt s.cur.ecx = some r ∧ t = completeWrmsr r s) := by
  replace h : execWrmsr s = .next t := h
  unfold execWrmsr at h
  split at h
  · rename_i hp
    have hc : s.lines.cpl = 0 := by simpa [privilegedOkMsr] using hp
    split at h
    · cases h
    · rename_i r hr
      split at h
      · cases h
        exact .inr ⟨hc, r, hr, rfl⟩
      · unfold reservedWrite at h
        split at h
        · cases h
        · cases h
          exact .inr ⟨hc, r, hr, rfl⟩
        · cases h
          exact .inl rfl
  · cases h
    exact .inl rfl

/-- Everything an RDMSR can do. -/
theorem execRdmsr_cases {s t : State} (h : exec .rdmsr s = .next t) :
    t = raiseGP s ∨ (s.lines.cpl = 0 ∧ ∃ r, msrAt s.cur.ecx = some r ∧
      t = s.setCur (s.cur.writePair s.lines.longMode (readMsr s.cur r)).pastInstr) := by
  replace h : execRdmsr s = .next t := h
  unfold execRdmsr at h
  split at h
  · rename_i hp
    split at h
    · cases h
    · rename_i r hr
      cases h
      exact .inr ⟨by simpa [privilegedOkMsr] using hp, r, hr, rfl⟩
  · cases h
    exact .inl rfl

/-- Everything an RDPMC can do. -/
theorem execRdpmc_cases {s t : State} (h : exec .rdpmc s = .next t) :
    t = raiseGP s ∨ ∃ i, pmcAt s.cur.ecx = some i ∧
      t = s.setCur (s.cur.writePair s.lines.longMode (readCounter s.cur i)).pastInstr := by
  replace h : execRdpmc s = .next t := h
  unfold execRdpmc at h
  split at h
  · split at h
    · cases h
      exact .inl rfl
    · rename_i i hi
      cases h
      exact .inr ⟨i, hi, rfl⟩
  · cases h
    exact .inl rfl

/-- Everything one step can do, by the agent that moves. -/
theorem step_cases {s t : State} (h : step s = .next t) :
    (s.env.agent = .instr ∧ ((s.lines.halted = true ∧ t = advance s) ∨
        (∃ e, s.cur.pendingTrap = some e ∧ t = advance (enterTrap e s)) ∨
        (∃ i, fetched s = .ok i ∧ ((waitsForClock i s.cur = true ∧ t = advance s) ∨
          ∃ u, exec i s = .next u ∧ t = advance u)))) ∨
      (s.env.agent = .count ∧ ((∃ i u, selected s = .ok i ∧ exec i s = .next u ∧ t = advance u) ∨
        ∃ e, selected s = .error e ∧ t = advance (countReserved (qualifiersOf (s.cur.counter s.ctr).sel) s))) ∨
      (s.env.agent = .interrupt ∧ t = advance (takeInterrupt s)) := by
  have hout : ∀ o : Host.Outcome State Fault Refusal, advanceOutcome o = .next t → ∃ u, o = .next u ∧ t = advance u := by
    intro o ho
    cases o with
    | next u => exact ⟨u, rfl, by cases ho; rfl⟩
    | fault r => cases ho
    | refused r => cases ho
  unfold step at h
  split at h
  · rename_i ha
    refine .inl ⟨ha, ?_⟩
    unfold instructionAgent at h
    split at h
    · rename_i hh
      cases h
      exact .inl ⟨hh, rfl⟩
    · split at h
      · rename_i e he
        cases h
        exact .inr (.inl ⟨e, he, rfl⟩)
      · split at h
        · rename_i i hi
          refine .inr (.inr ⟨i, hi, ?_⟩)
          split at h
          · rename_i hw
            cases h
            exact .inl ⟨hw, rfl⟩
          · exact .inr (hout _ h)
        all_goals cases h
  · rename_i ha
    refine .inr (.inl ⟨ha, ?_⟩)
    unfold countingAgent at h
    split at h
    · rename_i i hi
      obtain ⟨u, hu, ht⟩ := hout _ h
      exact .inl ⟨i, u, hi, hu, ht⟩
    · rename_i e he
      cases h
      exact .inr ⟨e, he, rfl⟩
  · rename_i ha
    cases h
    exact .inr (.inr ⟨ha, rfl⟩)

end Sys2Proof.Machine
end

