-- ==== Sys2Proof/Laws/Amount.lean ====
section
/-! SUPPORT. The amount of a clock in the rules' terms: in a configuration whose fields are defined it is the threshold of the
event's occurrences on a part that has the event, and the draw on one that has not. -/

namespace Sys2Proof.Machine

/-- The catalogue entry carries the code of the control word. -/
theorem codeOf_eq {i : Instr} {e : Event} (h : eventOf i = some e) : codeOf i = e.code := by
  cases i <;> first | (cases h; done) | (cases h; exact eventCode_assemble _ _)

/-- The rules' list of Northbridge codes is the machine's (R280). -/
theorem heldByOtherCore_eq_false {s : State} (h : ¬OtherCoreSelectsNorthbridge s) : heldByOtherCore s = false := by
  unfold OtherCoreSelectsNorthbridge at h
  unfold heldByOtherCore
  generalize ((s.core s.env.core.other).counter s.ctr).sel = sel at *
  have henable : (qualifiersOf sel).enable = sel.getLsbD 22 := rfl
  have hcode : eventCode sel = sel.extractLsb' 0 8 := rfl
  simp only [henable, hcode]
  cases hb : sel.getLsbD 22 with
  | false => rfl
  | true =>
    have hn : isNorthbridge (sel.extractLsb' 0 8) = false := by
      rw [← Bool.not_eq_true]
      intro hc
      exact h ⟨hb, List.contains_iff_mem.mp hc⟩
    simp only [hn, Bool.and_false, Bool.false_and]

/-- A mask leaves `d` and `l` together exactly when it leaves one of them. -/
theorem mask_outside (um d l : BitVec 8) :
    (um &&& ~~~(d &&& l) != 0) = ((um &&& ~~~d != 0) || (um &&& ~~~l != 0)) := by
  have h : um &&& ~~~(d &&& l) = (um &&& ~~~d) ||| (um &&& ~~~l) := by
    rw [BitVec.not_and, ← BitVec.and_or_distrib_left]
  rw [Bool.eq_iff_iff, Bool.or_eq_true, bne_iff_ne, bne_iff_ne, bne_iff_ne, h, ← not_and_or, not_iff_not]
  exact BitVec.or_eq_zero_iff

/-- A mask within the table is not cut by it. -/
theorem mask_within {um t : BitVec 8} (h : um &&& ~~~t = 0) : um &&& t = um := by
  have hd : um &&& (t ||| ~~~t) = um &&& t ||| um &&& ~~~t := BitVec.and_or_distrib_left
  rw [h, BitVec.or_not_self, BitVec.and_allOnes] at hd
  exact hd.trans (BitVec.or_zero) |>.symm

/-- An event that ignores UNIT_MASK is undefined on exactly the parts that do not list its code or have it not yet. -/
theorem undefinedOn_noTable {e : Event} (s : State) (um : BitVec 8)
    (hs : (∃ k, e.source = .noTable k) ∨ e.source = .everyClock) (ht : tableBits e.code = 0)
    (hr : neededRev e.code um = e.since) :
    e.undefinedOn Config.rev (s.events.bitsOf e.code) um = !partHas s e.code um := by
  have hu : ∀ rev l, e.unitMaskUndefined rev l um = false := by
    intro rev l
    unfold Event.unitMaskUndefined
    rcases hs with ⟨k, hs⟩ | hs <;> rw [hs]
  unfold Event.undefinedOn partHas
  cases s.events.bitsOf e.code with
  | none => rfl
  | some l => simp [hu, ht, hr]

/-- An event with a table, its mask within the table, is undefined on exactly the parts that lack the code or a bit. -/
theorem undefinedOn_masked {e : Event} {d : Rev → BitVec 8} (s : State) {um : BitVec 8}
    (hs : ∀ rev l, e.unitMaskUndefined rev l um = (um &&& ~~~(d rev &&& l) != 0))
    (ht : um &&& ~~~(tableBits e.code) = 0)
    (hr : ∀ rev, (!(e.since.le rev) || (um &&& ~~~(d rev) != 0)) = !(neededRev e.code um).le rev) :
    e.undefinedOn Config.rev (s.events.bitsOf e.code) um = !partHas s e.code um := by
  unfold Event.undefinedOn partHas
  cases s.events.bitsOf e.code with
  | none => rfl
  | some l =>
    dsimp only
    rw [hs, mask_outside, ← Bool.or_assoc, hr, mask_within ht, Bool.not_and]
    rfl

/-- The same for a table whose rows every revision that has the code has. -/
theorem undefinedOn_table {e : Event} {rows : List Lane} (s : State) {um : BitVec 8} (hs : e.source = .table rows)
    (hd : ∀ rev, definedBits rev rows = tableBits e.code) (hz : tableBits e.code ≠ 0)
    (ht : tableBits e.code ≠ 0 → um &&& ~~~(tableBits e.code) = 0) (hr : neededRev e.code um = e.since) :
    e.undefinedOn Config.rev (s.events.bitsOf e.code) um = !partHas s e.code um := by
  refine undefinedOn_masked (d := fun _ => tableBits e.code) s ?_ (ht hz) ?_
  · intro rev l
    unfold Event.unitMaskUndefined
    rw [hs]
    dsimp only
    rw [hd]
  · intro rev
    rw [ht hz, hr]
    exact Bool.or_false _

/-- Event ECh: the row 40h needs revision D. -/
theorem undefinedOn_ECh (s : State) {um : BitVec 8} (ht : um &&& ~~~(tableBits 0xEC) = 0) :
    eventECh.undefinedOn Config.rev (s.events.bitsOf 0xEC) um = !partHas s 0xEC um := by
  refine undefinedOn_masked (e := eventECh) (d := fun rev => definedBits rev _) s (fun _ _ => rfl) ht ?_
  intro rev
  revert um
  cases rev <;> decide +kernel

/-- Event E9h with a supported path selected: its three constraints are met. -/
theorem undefinedOn_E9h (s : State) {um : BitVec 8} (hp : ∃ p ∈ requestPaths, um &&& p = p) :
    eventE9h.undefinedOn Config.rev (s.events.bitsOf 0xE9) um = !partHas s 0xE9 um := by
  have hc : ∀ um : BitVec 8, (∃ p ∈ requestPaths, um &&& p = p) →
      um &&& 0x0F ≠ 0 ∧ um &&& 0xC0 ≠ 0 ∧ um &&& 0x30 ≠ 0 ∧ um &&& ~~~(tableBits 0xE9) = 0 ∧
      (requestPaths.any fun p => um &&& p == p) = true := by decide +kernel
  obtain ⟨h1, h2, h3, h4, h5⟩ := hc um hp
  refine undefinedOn_masked (e := eventE9h) (d := fun _ => tableBits 0xE9) s ?_ h4 ?_
  · intro rev l
    have hd : ∀ rows, eventE9h.source = .requestFlow rows → definedBits rev rows = tableBits 0xE9 ∧
        (rows.any fun p => p.selected um) = true := by
      intro rows hrows
      cases hrows
      exact ⟨by cases rev <;> rfl, h5⟩
    unfold Event.unitMaskUndefined
    split
    · rename_i h; cases h
    · rename_i h; cases h
    · rename_i h; cases h
    · rename_i rows h
      obtain ⟨hd, ha⟩ := hd rows h
      rw [hd, ha, beq_eq_false_iff_ne.mpr h1, beq_eq_false_iff_ne.mpr h2, beq_eq_false_iff_ne.mpr h3]
      simp only [Bool.or_false, Bool.not_true]
  · intro rev
    rw [h4]
    exact Bool.or_false _

/-- With a UNIT_MASK that its table defines, an event is undefined on exactly the parts that do not have it. -/
theorem undefinedOn_eq_not_partHas {i : Instr} {e : Event} (he : eventOf i = some e) (s : State) {um : BitVec 8}
    (h : UnitMaskDefined (codeOf i) um) :
    e.undefinedOn Config.rev (s.events.bitsOf e.code) um = !partHas s (codeOf i) um := by
  rw [codeOf_eq he] at h ⊢
  obtain ⟨ht, hp⟩ := h
  cases i <;> first
    | (cases he; done)
    | (cases he; exact undefinedOn_noTable s um (.inl ⟨_, rfl⟩) rfl rfl)
    | (cases he; exact undefinedOn_noTable s um (.inr rfl) rfl rfl)
    | (cases he; exact undefinedOn_table s rfl (by intro rev; cases rev <;> rfl) (by decide) ht rfl)
    | (cases he; exact undefinedOn_ECh s (ht (by decide)))
    | (cases he; exact undefinedOn_E9h s (hp rfl))

/-- The amount of a clock in a configuration whose fields are defined and which the other core does not hold. -/
theorem eventAmount_eq {i : Instr} {e : Event} {q : Qualifiers} {s : State} (he : eventOf i = some e)
    (hp : PlainFieldsDefined q) (hu : UnitMaskDefined (codeOf i) q.unitMask) (hn : ¬OtherCoreSelectsNorthbridge s) :
    eventAmount e q s =
      amountOnPart s (codeOf i) q.unitMask (specAmount q (e.occ q.unitMask (s.env.occ.get s.ctr))) := by
  have hc : cntMaskReserved q = false := decide_eq_false (Nat.not_le.mpr hp.1)
  have hi : invertUndefined q = false := by
    rw [← Bool.not_eq_true]
    intro h
    obtain ⟨h0, h1⟩ := Bool.and_eq_true_iff.mp h
    rw [hp.2 (beq_iff_eq.mp h0)] at h1
    cases h1
  unfold eventAmount amountOf undefinedConfig amountOnPart
  rw [hc, hi, heldByOtherCore_eq_false hn, undefinedOn_eq_not_partHas he s hu, threshold_eq_spec]
  cases partHas s (codeOf i) q.unitMask <;> rfl

end Sys2Proof.Machine
end

