-- ==== Sys2Proof/Laws/Memory.lean ====
section
/-! SUPPORT. Memory operations: a read after a write, and the canonical form is kept. -/

namespace Sys2Proof.Machine

theorem memRead_memWrite_same (m : List Host.Cell) (x : Nat) (v : Byte) : memRead (memWrite m x v) x = some v := by
  induction m with
  | nil => simp [memWrite, memRead]
  | cons p rest ih =>
    obtain ⟨a, b⟩ := p
    unfold memWrite
    split
    · simp [memRead]
    · split
      · simp [memRead]
      · rename_i h1 h2
        have h3 : a ≠ x := fun h => h2 h.symm
        simp [memRead, h3, ih]

theorem memRead_memWrite_ne (m : List Host.Cell) {x y : Nat} (v : Byte) (h : y ≠ x) :
    memRead (memWrite m x v) y = memRead m y := by
  induction m with
  | nil => simp [memWrite, memRead, h.symm]
  | cons p rest ih =>
    obtain ⟨a, b⟩ := p
    unfold memWrite
    split
    · simp [memRead, h.symm]
    · split
      · rename_i h1 h2
        subst h2
        simp [memRead, h.symm]
      · simp [memRead, ih]

theorem memSortedFrom_memWrite (m : List Host.Cell) {x : Nat} (v : Byte) (hx : x < addrLimit) :
    ∀ last : Option Nat, memSortedFrom last m = true → aboveLast last x = true →
      memSortedFrom last (memWrite m x v) = true := by
  induction m with
  | nil =>
    intro last _ hl
    simp [memWrite, memSortedFrom, hx, hl]
  | cons p rest ih =>
    obtain ⟨a, b⟩ := p
    intro last h hl
    simp only [memSortedFrom, Bool.and_eq_true, decide_eq_true_eq] at h
    obtain ⟨⟨h1, h2⟩, h3⟩ := h
    unfold memWrite
    split
    · rename_i hxa
      have hxa' : aboveLast (some x) a = true := by simp [aboveLast, hxa]
      simp [memSortedFrom, hx, h2, h3, hxa', hl]
    · split
      · rename_i _ hxa
        subst hxa
        simp [memSortedFrom, hx, h3, hl]
      · have ha : aboveLast (some a) x = true := by simp [aboveLast]; omega
        simp [memSortedFrom, h1, h2, ih (some a) h3 ha]

/-- Placing a byte keeps the canonical form. -/
theorem memWf_memWrite {m : List Host.Cell} {x : Nat} (v : Byte) (h : memWf m = true) (hx : x < addrLimit) :
    memWf (memWrite m x v) = true :=
  memSortedFrom_memWrite m v hx none h rfl

end Sys2Proof.Machine
end

