-- ==== Sys2Proof/Laws/PerInstr.lean ====
section
/-! SUPPORT. A per-instruction family over the encoding: the form that R71 and R75 give it. -/

namespace Sys2Proof.Laws

/-- The encoding has the form its format gives: two bytes, the first 0F (R75), for a register-access instruction; for an
event a control word assembled (R72) from a code that the event map (R77) gives back to an instruction with the
same fields. -/
def EncodingForm.Statement (i : Instr) : Prop :=
  match qualifiers i with
  | none => ∃ b : Byte, encode i = .bytes [0x0F, b]
  | some q => ∃ code : BitVec 8, encode i = .control (assemble code q) ∧ (instrOfCode code q).isSome ∧
      (Machine.eventOf i).isSome

theorem EncodingForm.of_control {i : Instr} {q : Qualifiers} {code : BitVec 8} (hq : qualifiers i = some q)
    (he : encode i = .control (assemble code q)) (hc : (instrOfCode code q).isSome)
    (hv : (Machine.eventOf i).isSome) : EncodingForm.Statement i := by
  unfold EncodingForm.Statement
  rw [hq]
  exact ⟨code, he, hc, hv⟩

theorem EncodingForm.wrmsr : EncodingForm.Statement .wrmsr :=
  ⟨0x30, rfl⟩
theorem EncodingForm.rdmsr : EncodingForm.Statement .rdmsr :=
  ⟨0x32, rfl⟩
theorem EncodingForm.rdpmc : EncodingForm.Statement .rdpmc :=
  ⟨0x33, rfl⟩
theorem EncodingForm.evt00h (q : Qualifiers) : EncodingForm.Statement (.evt00h q) :=
  EncodingForm.of_control rfl rfl rfl rfl
theorem EncodingForm.evt01h (q : Qualifiers) : EncodingForm.Statement (.evt01h q) :=
  EncodingForm.of_control rfl rfl rfl rfl
theorem EncodingForm.evt02h (q : Qualifiers) : EncodingForm.Statement (.evt02h q) :=
  EncodingForm.of_control rfl rfl rfl rfl
theorem EncodingForm.evt20h (q : Qualifiers) : EncodingForm.Statement (.evt20h q) :=
  EncodingForm.of_control rfl rfl rfl rfl
theorem EncodingForm.evt21h (q : Qualifiers) : EncodingForm.Statement (.evt21h q) :=
  EncodingForm.of_control rfl rfl rfl rfl
theorem EncodingForm.evt22h (q : Qualifiers) : EncodingForm.Statement (.evt22h q) :=
  EncodingForm.of_control rfl rfl rfl rfl
theorem EncodingForm.evt23h (q : Qualifiers) : EncodingForm.Statement (.evt23h q) :=
  EncodingForm.of_control rfl rfl rfl rfl
theorem EncodingForm.evt24h (q : Qualifiers) : EncodingForm.Statement (.evt24h q) :=
  EncodingForm.of_control rfl rfl rfl rfl
theorem EncodingForm.evt65h (q : Qualifiers) : EncodingForm.Statement (.evt65h q) :=
  EncodingForm.of_control rfl rfl rfl rfl
theorem EncodingForm.evt40h (q : Qualifiers) : EncodingForm.Statement (.evt40h q) :=
  EncodingForm.of_control rfl rfl rfl rfl
theorem EncodingForm.evt41h (q : Qualifiers) : EncodingForm.Statement (.evt41h q) :=
  EncodingForm.of_control rfl rfl rfl rfl
theorem EncodingForm.evt42h (q : Qualifiers) : EncodingForm.Statement (.evt42h q) :=
  EncodingForm.of_control rfl rfl rfl rfl
theorem EncodingForm.evt43h (q : Qualifiers) : EncodingForm.Statement (.evt43h q) :=
  EncodingForm.of_control rfl rfl rfl rfl
theorem EncodingForm.evt44h (q : Qualifiers) : EncodingForm.Statement (.evt44h q) :=
  EncodingForm.of_control rfl rfl rfl rfl
theorem EncodingForm.evt45h (q : Qualifiers) : EncodingForm.Statement (.evt45h q) :=
  EncodingForm.of_control rfl rfl rfl rfl
theorem EncodingForm.evt46h (q : Qualifiers) : EncodingForm.Statement (.evt46h q) :=
  EncodingForm.of_control rfl rfl rfl rfl
theorem EncodingForm.evt47h (q : Qualifiers) : EncodingForm.Statement (.evt47h q) :=
  EncodingForm.of_control rfl rfl rfl rfl
theorem EncodingForm.evt48h (q : Qualifiers) : EncodingForm.Statement (.evt48h q) :=
  EncodingForm.of_control rfl rfl rfl rfl
theorem EncodingForm.evt49h (q : Qualifiers) : EncodingForm.Statement (.evt49h q) :=
  EncodingForm.of_control rfl rfl rfl rfl
theorem EncodingForm.evt4Ah (q : Qualifiers) : EncodingForm.Statement (.evt4Ah q) :=
  EncodingForm.of_control rfl rfl rfl rfl
theorem EncodingForm.evt4Bh (q : Qualifiers) : EncodingForm.Statement (.evt4Bh q) :=
  EncodingForm.of_control rfl rfl rfl rfl
theorem EncodingForm.evt4Ch (q : Qualifiers) : EncodingForm.Statement (.evt4Ch q) :=
  EncodingForm.of_control rfl rfl rfl rfl
theorem EncodingForm.evt67h (q : Qualifiers) : EncodingForm.Statement (.evt67h q) :=
  EncodingForm.of_control rfl rfl rfl rfl
theorem EncodingForm.evt6Ch (q : Qualifiers) : EncodingForm.Statement (.evt6Ch q) :=
  EncodingForm.of_control rfl rfl rfl rfl
theorem EncodingForm.evt6Dh (q : Qualifiers) : EncodingForm.Statement (.evt6Dh q) :=
  EncodingForm.of_control rfl rfl rfl rfl
theorem EncodingForm.evt7Dh (q : Qualifiers) : EncodingForm.Statement (.evt7Dh q) :=
  EncodingForm.of_control rfl rfl rfl rfl
theorem EncodingForm.evt7Eh (q : Qualifiers) : EncodingForm.Statement (.evt7Eh q) :=
  EncodingForm.of_control rfl rfl rfl rfl
theorem EncodingForm.evt7Fh (q : Qualifiers) : EncodingForm.Statement (.evt7Fh q) :=
  EncodingForm.of_control rfl rfl rfl rfl
theorem EncodingForm.evt80h (q : Qualifiers) : EncodingForm.Statement (.evt80h q) :=
  EncodingForm.of_control rfl rfl rfl rfl
theorem EncodingForm.evt81h (q : Qualifiers) : EncodingForm.Statement (.evt81h q) :=
  EncodingForm.of_control rfl rfl rfl rfl
theorem EncodingForm.evt82h (q : Qualifiers) : EncodingForm.Statement (.evt82h q) :=
  EncodingForm.of_control rfl rfl rfl rfl
theorem EncodingForm.evt83h (q : Qualifiers) : EncodingForm.Statement (.evt83h q) :=
  EncodingForm.of_control rfl rfl rfl rfl
theorem EncodingForm.evt84h (q : Qualifiers) : EncodingForm.Statement (.evt84h q) :=
  EncodingForm.of_control rfl rfl rfl rfl
theorem EncodingForm.evt85h (q : Qualifiers) : EncodingForm.Statement (.evt85h q) :=
  EncodingForm.of_control rfl rfl rfl rfl
theorem EncodingForm.evt86h (q : Qualifiers) : EncodingForm.Statement (.evt86h q) :=
  EncodingForm.of_control rfl rfl rfl rfl
theorem EncodingForm.evt87h (q : Qualifiers) : EncodingForm.Statement (.evt87h q) :=
  EncodingForm.of_control rfl rfl rfl rfl
theorem EncodingForm.evt88h (q : Qualifiers) : EncodingForm.Statement (.evt88h q) :=
  EncodingForm.of_control rfl rfl rfl rfl
theorem EncodingForm.evt89h (q : Qualifiers) : EncodingForm.Statement (.evt89h q) :=
  EncodingForm.of_control rfl rfl rfl rfl
theorem EncodingForm.evt26h (q : Qualifiers) : EncodingForm.Statement (.evt26h q) :=
  EncodingForm.of_control rfl rfl rfl rfl
theorem EncodingForm.evt27h (q : Qualifiers) : EncodingForm.Statement (.evt27h q) :=
  EncodingForm.of_control rfl rfl rfl rfl
theorem EncodingForm.evt76h (q : Qualifiers) : EncodingForm.Statement (.evt76h q) :=
  EncodingForm.of_control rfl rfl rfl rfl
theorem EncodingForm.evtC0h (q : Qualifiers) : EncodingForm.Statement (.evtC0h q) :=
  EncodingForm.of_control rfl rfl rfl rfl
theorem EncodingForm.evtC1h (q : Qualifiers) : EncodingForm.Statement (.evtC1h q) :=
  EncodingForm.of_control rfl rfl rfl rfl
theorem EncodingForm.evtC2h (q : Qualifiers) : EncodingForm.Statement (.evtC2h q) :=
  EncodingForm.of_control rfl rfl rfl rfl
theorem EncodingForm.evtC3h (q : Qualifiers) : EncodingForm.Statement (.evtC3h q) :=
  EncodingForm.of_control rfl rfl rfl rfl
theorem EncodingForm.evtC4h (q : Qualifiers) : EncodingForm.Statement (.evtC4h q) :=
  EncodingForm.of_control rfl rfl rfl rfl
theorem EncodingForm.evtC5h (q : Qualifiers) : EncodingForm.Statement (.evtC5h q) :=
  EncodingForm.of_control rfl rfl rfl rfl
theorem EncodingForm.evtC6h (q : Qualifiers) : EncodingForm.Statement (.evtC6h q) :=
  EncodingForm.of_control rfl rfl rfl rfl
theorem EncodingForm.evtC7h (q : Qualifiers) : EncodingForm.Statement (.evtC7h q) :=
  EncodingForm.of_control rfl rfl rfl rfl
theorem EncodingForm.evtC8h (q : Qualifiers) : EncodingForm.Statement (.evtC8h q) :=
  EncodingForm.of_control rfl rfl rfl rfl
theorem EncodingForm.evtC9h (q : Qualifiers) : EncodingForm.Statement (.evtC9h q) :=
  EncodingForm.of_control rfl rfl rfl rfl
theorem EncodingForm.evtCAh (q : Qualifiers) : EncodingForm.Statement (.evtCAh q) :=
  EncodingForm.of_control rfl rfl rfl rfl
theorem EncodingForm.evtCBh (q : Qualifiers) : EncodingForm.Statement (.evtCBh q) :=
  EncodingForm.of_control rfl rfl rfl rfl
theorem EncodingForm.evtCCh (q : Qualifiers) : EncodingForm.Statement (.evtCCh q) :=
  EncodingForm.of_control rfl rfl rfl rfl
theorem EncodingForm.evtCDh (q : Qualifiers) : EncodingForm.Statement (.evtCDh q) :=
  EncodingForm.of_control rfl rfl rfl rfl
theorem EncodingForm.evtCEh (q : Qualifiers) : EncodingForm.Statement (.evtCEh q) :=
  EncodingForm.of_control rfl rfl rfl rfl
theorem EncodingForm.evtCFh (q : Qualifiers) : EncodingForm.Statement (.evtCFh q) :=
  EncodingForm.of_control rfl rfl rfl rfl
theorem EncodingForm.evtD0h (q : Qualifiers) : EncodingForm.Statement (.evtD0h q) :=
  EncodingForm.of_control rfl rfl rfl rfl
theorem EncodingForm.evtD1h (q : Qualifiers) : EncodingForm.Statement (.evtD1h q) :=
  EncodingForm.of_control rfl rfl rfl rfl
theorem EncodingForm.evtD2h (q : Qualifiers) : EncodingForm.Statement (.evtD2h q) :=
  EncodingForm.of_control rfl rfl rfl rfl
theorem EncodingForm.evtD3h (q : Qualifiers) : EncodingForm.Statement (.evtD3h q) :=
  EncodingForm.of_control rfl rfl rfl rfl
theorem EncodingForm.evtD4h (q : Qualifiers) : EncodingForm.Statement (.evtD4h q) :=
  EncodingForm.of_control rfl rfl rfl rfl
theorem EncodingForm.evtD5h (q : Qualifiers) : EncodingForm.Statement (.evtD5h q) :=
  EncodingForm.of_control rfl rfl rfl rfl
theorem EncodingForm.evtD6h (q : Qualifiers) : EncodingForm.Statement (.evtD6h q) :=
  EncodingForm.of_control rfl rfl rfl rfl
theorem EncodingForm.evtD7h (q : Qualifiers) : EncodingForm.Statement (.evtD7h q) :=
  EncodingForm.of_control rfl rfl rfl rfl
theorem EncodingForm.evtD8h (q : Qualifiers) : EncodingForm.Statement (.evtD8h q) :=
  EncodingForm.of_control rfl rfl rfl rfl
theorem EncodingForm.evtD9h (q : Qualifiers) : EncodingForm.Statement (.evtD9h q) :=
  EncodingForm.of_control rfl rfl rfl rfl
theorem EncodingForm.evtDAh (q : Qualifiers) : EncodingForm.Statement (.evtDAh q) :=
  EncodingForm.of_control rfl rfl rfl rfl
theorem EncodingForm.evtDBh (q : Qualifiers) : EncodingForm.Statement (.evtDBh q) :=
  EncodingForm.of_control rfl rfl rfl rfl
theorem EncodingForm.evtDCh (q : Qualifiers) : EncodingForm.Statement (.evtDCh q) :=
  EncodingForm.of_control rfl rfl rfl rfl
theorem EncodingForm.evtDDh (q : Qualifiers) : EncodingForm.Statement (.evtDDh q) :=
  EncodingForm.of_control rfl rfl rfl rfl
theorem EncodingForm.evtDEh (q : Qualifiers) : EncodingForm.Statement (.evtDEh q) :=
  EncodingForm.of_control rfl rfl rfl rfl
theorem EncodingForm.evtDFh (q : Qualifiers) : EncodingForm.Statement (.evtDFh q) :=
  EncodingForm.of_control rfl rfl rfl rfl
theorem EncodingForm.evtE0h (q : Qualifiers) : EncodingForm.Statement (.evtE0h q) :=
  EncodingForm.of_control rfl rfl rfl rfl
theorem EncodingForm.evtE1h (q : Qualifiers) : EncodingForm.Statement (.evtE1h q) :=
  EncodingForm.of_control rfl rfl rfl rfl
theorem EncodingForm.evtE3h (q : Qualifiers) : EncodingForm.Statement (.evtE3h q) :=
  EncodingForm.of_control rfl rfl rfl rfl
theorem EncodingForm.evtE4h (q : Qualifiers) : EncodingForm.Statement (.evtE4h q) :=
  EncodingForm.of_control rfl rfl rfl rfl
theorem EncodingForm.evtE5h (q : Qualifiers) : EncodingForm.Statement (.evtE5h q) :=
  EncodingForm.of_control rfl rfl rfl rfl
theorem EncodingForm.evtE8h (q : Qualifiers) : EncodingForm.Statement (.evtE8h q) :=
  EncodingForm.of_control rfl rfl rfl rfl
theorem EncodingForm.evtE9h (q : Qualifiers) : EncodingForm.Statement (.evtE9h q) :=
  EncodingForm.of_control rfl rfl rfl rfl
theorem EncodingForm.evtEAh (q : Qualifiers) : EncodingForm.Statement (.evtEAh q) :=
  EncodingForm.of_control rfl rfl rfl rfl
theorem EncodingForm.evtEBh (q : Qualifiers) : EncodingForm.Statement (.evtEBh q) :=
  EncodingForm.of_control rfl rfl rfl rfl
theorem EncodingForm.evtECh (q : Qualifiers) : EncodingForm.Statement (.evtECh q) :=
  EncodingForm.of_control rfl rfl rfl rfl
theorem EncodingForm.evtEEh (q : Qualifiers) : EncodingForm.Statement (.evtEEh q) :=
  EncodingForm.of_control rfl rfl rfl rfl
theorem EncodingForm.evtF6h (q : Qualifiers) : EncodingForm.Statement (.evtF6h q) :=
  EncodingForm.of_control rfl rfl rfl rfl
theorem EncodingForm.evtF7h (q : Qualifiers) : EncodingForm.Statement (.evtF7h q) :=
  EncodingForm.of_control rfl rfl rfl rfl
theorem EncodingForm.evtF8h (q : Qualifiers) : EncodingForm.Statement (.evtF8h q) :=
  EncodingForm.of_control rfl rfl rfl rfl

end Sys2Proof.Laws
end

