-- ==== Sys2Proof/Laws/Schedule.lean ====
section
/-! SUPPORT. What handing over to the next agent leaves alone, the addresses of the registers, and what a defined control
word selects. -/

namespace Sys2Proof.Machine

@[simp] theorem mem_advance (s : State) : (advance s).mem = s.mem := by
  unfold advance
  cases s.env.agent <;> try rfl
  cases s.ctr <;> try rfl
  unfold clockDone
  dsimp only
  split <;> simp [boundary]

@[simp] theorem outputs_advance (s : State) : (advance s).outputs = s.outputs := by
  unfold advance
  cases s.env.agent <;> try rfl
  cases s.ctr <;> try rfl
  unfold clockDone
  dsimp only
  split <;> simp [boundary]

@[simp] theorem events_advance (s : State) : (advance s).events = s.events := by
  unfold advance
  cases s.env.agent <;> try rfl
  cases s.ctr <;> try rfl
  unfold clockDone
  dsimp only
  split <;> simp [boundary]

@[simp] theorem core_clockDone (s : State) (c : CoreId) :
    (clockDone s).core c =
      if c = s.env.core ∧ s.lines.halted = false then { s.core c with clockOwed := false } else s.core c := by
  unfold clockDone
  cases h : s.lines.halted
  · by_cases hc : c = s.env.core
    · subst hc; simp [State.core_setCur, State.cur]
    · simp [State.core_setCur, hc]
  · simp

theorem core_advance (s : State) (c : CoreId) :
    (advance s).core c = s.core c ∨ (advance s).core c = { s.core c with clockOwed := false } := by
  have hb : ∀ u : State, (boundary u).core c = u.core c := by intro u; cases c <;> rfl
  have hn : ∀ (i : CtrId) (u : State), (nextCounter i u).core c = u.core c := by intro i u; cases c <;> rfl
  unfold advance
  cases s.env.agent <;> simp only [hb, true_or]
  cases s.ctr <;> simp only [hb, hn, true_or]
  rw [core_clockDone]
  split
  · exact .inr rfl
  · exact .inl rfl


@[simp] theorem counter_advance (s : State) (c : CoreId) (i : CtrId) :
    ((advance s).core c).counter i = (s.core c).counter i := by
  rcases core_advance s c with h | h
  · rw [h]
  · rw [h]
    rfl

@[simp] theorem pendingTrap_advance (s : State) (c : CoreId) :
    ((advance s).core c).pendingTrap = (s.core c).pendingTrap := by
  rcases core_advance s c with h | h <;> rw [h]

@[simp] theorem savedTrap_advance (s : State) (c : CoreId) :
    ((advance s).core c).savedTrap = (s.core c).savedTrap := by
  rcases core_advance s c with h | h <;> rw [h]

/-- A found register stands at the address the rules give it (R21, R24). -/
theorem msrAt_eq_some {a : Word} {r : MsrReg} (h : msrAt a = some r) :
    (∃ i, r = .evtSel i ∧ a = selAddress i) ∨ ∃ i, r = .ctr i ∧ a = ctrAddress i := by
  have ha : a = BitVec.ofNat 32 a.toNat := by simp
  unfold msrAt at h
  split at h
  all_goals first
    | (cases h; done)
    | (rename_i hh; cases h; rw [ha, hh]; exact .inl ⟨_, rfl, rfl⟩)
    | (rename_i hh; cases h; rw [ha, hh]; exact .inr ⟨_, rfl, rfl⟩)

@[simp] theorem msrAt_selAddress (i : CtrId) : msrAt (selAddress i) = some (.evtSel i) := by
  cases i <;> rfl

@[simp] theorem msrAt_ctrAddress (i : CtrId) : msrAt (ctrAddress i) = some (.ctr i) := by
  cases i <;> rfl

@[simp] theorem pmcAt_pmcIndex (i : CtrId) : pmcAt (pmcIndex i) = some i := by
  cases i <;> rfl

/-- A control word that decodes is an event's, with the word's own fields. -/
theorem eventOf_decodeControl {v : Quad} {i : Instr} (h : decodeControl v = .ok i) :
    ∃ e, eventOf i = some e ∧ qualifiers i = some (qualifiersOf v) := by
  unfold decodeControl at h
  cases hc : instrOfCode (eventCode v) (qualifiersOf v) with
  | none => rw [hc] at h; cases h
  | some j =>
    rw [hc] at h
    cases h
    unfold instrOfCode at hc
    generalize qualifiersOf v = q at *
    split at hc <;> first | (cases hc; done) | (cases hc; exact ⟨_, rfl, rfl⟩)

end Sys2Proof.Machine
end

