-- ==== Sys2Proof/Machine/Measures.lean ====
section
/-! DEFINITION. What the counts of the events that depend on the parameters `DRAMGRAN`, `DRAMWIDTH` and `NHTLINK` (R8) stand
for, as the event rules say. The formulas interpret a count; no step uses them (R283, R348). -/

namespace Sys2Proof.Machine

/-- Bytes transferred by a number of counted DRAM accesses, event E0h (R281). -/
def dramBytes (d : DramSetup) (count : Nat) : Nat :=
  count * d.granularity

/-- The three formulas of event E3h in their printed order (R283). Which of the two read/write formulas belongs to which
row of the UNIT_MASK table is not settled (`90_conflicts.md` C4), so none is attached to a row. -/
inductive Turnaround where
  | dimm
  | readWrite
  | readWriteCas (tcl : Nat)
  deriving DecidableEq, Repr

/-- Lost bandwidth in bytes per occurrence (R283): width * 2 edges per memory clock * clocks lost. -/
def Turnaround.lostBytes (t : Turnaround) (d : DramSetup) : Nat :=
  d.width * 2 * (match t with
    | .dimm => 2
    | .readWrite => 1
    | .readWriteCas tcl => tcl - 1)

/-- The HyperTransport link whose transmit side an event code counts, events F6h to F8h (R292 to R294). -/
def htLinkOf (code : BitVec 8) : Option (Fin Config.htLinks) :=
  match code.toNat with
  | 0xF6 => some ⟨0, by decide⟩
  | 0xF7 => some ⟨1, by decide⟩
  | 0xF8 => some ⟨2, by decide⟩
  | _ => none

/-- Bytes of a number of counted Dwords (R292). -/
def htBytes (count : Nat) : Nat :=
  count * 4

/-- Link utilisation from the counts with UNIT_MASK 07h and 08h (R292, `90_conflicts.md` C10); none where neither
counted anything. -/
def linkUtilisation (busy idle : Nat) : Option Rat :=
  if busy + idle = 0 then none else some (busy / ((busy : Rat) + idle))

end Sys2Proof.Machine
end

