-- ==== Sys2Proof/Tests/Slice0.lean ====
section
/-! SUPPORT. Tests against the spec's own words, vectors and examples (`95_test_vectors.md`, the event rules), the smoke
test of the well-formedness checks, and for each obligation with hypotheses a state that meets them. -/

namespace Sys2Proof.Tests

open Sys2Proof Sys2Proof.Machine

/-- USR, OS and EN with a UNIT_MASK: the base 0043_0000h of the event rules' examples. -/
def plain (um : BitVec 8) : Qualifiers :=
  ⟨um, true, true, false, false, false, true, false, 0⟩

/-! ### Well-formedness: one ill-formed term for each check -/

theorem test_wf_accepts_defined : wellFormed (.evt42h (plain 0x1F)) = true := by decide
theorem test_wf_refuses_unit_mask : wellFormed (.evtE0h (plain 0x08)) = false := by decide
theorem test_wf_refuses_e9_without_source : wellFormed (.evtE9h (plain 0x28)) = false := by decide
theorem test_wf_refuses_e9_without_supported_path : wellFormed (.evtE9h (plain 0x68)) = false := by decide
theorem test_wf_refuses_cnt_mask : wellFormed (.evtC0h { plain 0 with cntMask := 4 }) = false := by decide
theorem test_wf_refuses_invert : wellFormed (.evtC0h { plain 0 with invert := true }) = false := by decide

/-! ### Decoding and encoding (`30_encoding.md`, `95_test_vectors.md` 2.1) -/

theorem test_decode_wrmsr : decodeTableWord 16 0x0F30 = some .wrmsr := by decide
theorem test_decode_rdmsr : decodeTableWord 16 0x0F32 = some .rdmsr := by decide
theorem test_decode_rdpmc : decodeTableWord 16 0x0F33 = some .rdpmc := by decide
theorem test_decode_other : decodeBytes [0xB9, 0x00] = .error .otherOpcode := by decide
theorem test_decode_truncated : decodeBytes [0x0F] = .error .truncated := by decide
/-- R78: 169 codes are reserved. -/
theorem test_reserved_codes : (List.range 256).countP (fun c => (decodeTableWord 8 c).isNone) = 169 := by
  decide +kernel
/-- 02C7_1F43h: every field position. -/
theorem test_decode_every_field :
    decodeControl 0x02C71F43 = .ok (.evt43h ⟨0x1F, true, true, true, false, false, true, true, 2⟩) := by decide
/-- 005B_0076h: USR, OS, PC, INT, EN. -/
theorem test_encode_pin_and_int :
    encode (.evt76h ⟨0, true, true, false, true, true, true, false, 0⟩) = .control 0x005B0076 := by decide

/-- The example word of every event rule of this family decodes to its event, its UNIT_MASK, USR, OS and EN. -/
theorem test_decode_examples_fpu_ls_dc_l2 :
    ∀ p ∈ ([
    (0x00433F00, .evt00h (plain 0x3F)), (0x00430001, .evt01h (plain 0x00)), (0x00430002, .evt02h (plain 0x00)),
    (0x00437F20, .evt20h (plain 0x7F)), (0x00430021, .evt21h (plain 0x00)), (0x00430022, .evt22h (plain 0x00)),
    (0x00430023, .evt23h (plain 0x00)), (0x00430124, .evt24h (plain 0x01)), (0x00430265, .evt65h (plain 0x02)),
    (0x00430040, .evt40h (plain 0x00)), (0x00430041, .evt41h (plain 0x00)), (0x00431F42, .evt42h (plain 0x1F)),
    (0x00431F43, .evt43h (plain 0x1F)), (0x00431F44, .evt44h (plain 0x1F)), (0x00430045, .evt45h (plain 0x00)),
    (0x00430046, .evt46h (plain 0x00)), (0x00430047, .evt47h (plain 0x00)), (0x00430048, .evt48h (plain 0x00)),
    (0x00430049, .evt49h (plain 0x00)), (0x0043034A, .evt4Ah (plain 0x03)), (0x0043074B, .evt4Bh (plain 0x07)),
    (0x0043024C, .evt4Ch (plain 0x02)), (0x00430267, .evt67h (plain 0x02)), (0x0043076C, .evt6Ch (plain 0x07)),
    (0x0043016D, .evt6Dh (plain 0x01)), (0x0043037D, .evt7Dh (plain 0x03)), (0x0043077E, .evt7Eh (plain 0x07)),
    (0x0043017F, .evt7Fh (plain 0x01))] : List (Quad × Instr)), decodeControl p.1 = .ok p.2 := by decide

/-- The example word of every event rule of this family decodes to its event, its UNIT_MASK, USR, OS and EN. -/
theorem test_decode_examples_ic_ex :
    ∀ p ∈ ([
    (0x00430080, .evt80h (plain 0x00)), (0x00430081, .evt81h (plain 0x00)), (0x00430082, .evt82h (plain 0x00)),
    (0x00430083, .evt83h (plain 0x00)), (0x00430084, .evt84h (plain 0x00)), (0x00430085, .evt85h (plain 0x00)),
    (0x00430086, .evt86h (plain 0x00)), (0x00430087, .evt87h (plain 0x00)), (0x00430088, .evt88h (plain 0x00)),
    (0x00430089, .evt89h (plain 0x00)), (0x00430026, .evt26h (plain 0x00)), (0x00430027, .evt27h (plain 0x00)),
    (0x00430076, .evt76h (plain 0x00)), (0x004300C0, .evtC0h (plain 0x00)), (0x004300C1, .evtC1h (plain 0x00)),
    (0x004300C2, .evtC2h (plain 0x00)), (0x004300C3, .evtC3h (plain 0x00)), (0x004300C4, .evtC4h (plain 0x00)),
    (0x004300C5, .evtC5h (plain 0x00)), (0x004300C6, .evtC6h (plain 0x00)), (0x004300C7, .evtC7h (plain 0x00)),
    (0x004300C8, .evtC8h (plain 0x00)), (0x004300C9, .evtC9h (plain 0x00)), (0x004300CA, .evtCAh (plain 0x00)),
    (0x00430FCB, .evtCBh (plain 0x0F)), (0x004307CC, .evtCCh (plain 0x07)), (0x004300CD, .evtCDh (plain 0x00)),
    (0x004300CE, .evtCEh (plain 0x00)), (0x004300CF, .evtCFh (plain 0x00)), (0x004300D0, .evtD0h (plain 0x00)),
    (0x004300D1, .evtD1h (plain 0x00)), (0x004300D2, .evtD2h (plain 0x00)), (0x004300D3, .evtD3h (plain 0x00)),
    (0x004300D4, .evtD4h (plain 0x00)), (0x004300D5, .evtD5h (plain 0x00)), (0x004300D6, .evtD6h (plain 0x00)),
    (0x004300D7, .evtD7h (plain 0x00)), (0x004300D8, .evtD8h (plain 0x00)), (0x004300D9, .evtD9h (plain 0x00)),
    (0x004300DA, .evtDAh (plain 0x00)), (0x00430FDB, .evtDBh (plain 0x0F)), (0x004300DC, .evtDCh (plain 0x00)),
    (0x004300DD, .evtDDh (plain 0x00)), (0x004300DE, .evtDEh (plain 0x00)), (0x004300DF, .evtDFh (plain 0x00))] : List (Quad × Instr)), decodeControl p.1 = .ok p.2 := by decide

/-- The example word of every event rule of this family decodes to its event, its UNIT_MASK, USR, OS and EN. -/
theorem test_decode_examples_nb_ht :
    ∀ p ∈ ([
    (0x004307E0, .evtE0h (plain 0x07)), (0x004300E1, .evtE1h (plain 0x00)), (0x004307E3, .evtE3h (plain 0x07)),
    (0x00430FE4, .evtE4h (plain 0x0F)), (0x004308E5, .evtE5h (plain 0x08)), (0x004380E8, .evtE8h (plain 0x80)),
    (0x0043B8E9, .evtE9h (plain 0xB8)), (0x00433DEA, .evtEAh (plain 0x3D)), (0x00437FEB, .evtEBh (plain 0x7F)),
    (0x00430FEC, .evtECh (plain 0x0F)), (0x004304EE, .evtEEh (plain 0x04)), (0x004302F6, .evtF6h (plain 0x02)),
    (0x00430FF7, .evtF7h (plain 0x0F)), (0x004308F8, .evtF8h (plain 0x08))] : List (Quad × Instr)), decodeControl p.1 = .ok p.2 := by decide

/-! ### One counting step (`95_test_vectors.md` 2.3): a core-0 state at CPL `cpl` whose counter 0 has the given PerfEvtSel,
value and detector, and the oracle's report for it -/

def counting (sel : Quad) (ctr : Count) (prev : Bool) (cpl : BitVec 2) (inp : EventInput) : State :=
  { State.reset with
    core0 := Core.reset.setCounter .c0 { sel := sel, ctr := ctr, prev := prev, pin := false }
    env := { Env.reset with
      agent := .count
      core0 := { CoreEnv.reset with cpl := cpl }
      occ := ⟨inp, ⟨0, []⟩, ⟨0, []⟩, ⟨0, []⟩⟩ } }

/-- What a step leaves in counter 0 and the outputs. -/
def seen (o : Host.Outcome State Fault Refusal) : Option (Count × Bool × Bool × List Output) :=
  match o with
  | .next t => some ((t.core0.counter .c0).ctr, (t.core0.counter .c0).prev, (t.core0.counter .c0).pin, t.outputs)
  | .fault _ => none
  | .refused _ => none

theorem test_k1 : seen (step (counting 0x004300C1 0 false 0 ⟨3, []⟩)) = some (3, true, true, [.togglePM .core0 .c0]) := by
  decide
theorem test_k3 : seen (step (counting 0x000300C1 5 false 0 ⟨3, []⟩)) = some (5, true, false, []) := by decide
theorem test_k4 : seen (step (counting 0x004100C1 5 false 0 ⟨2, []⟩)) = some (5, true, false, []) := by decide
theorem test_k6 : seen (step (counting 0x004200C1 5 false 1 ⟨2, []⟩)) = some (5, true, false, []) := by decide
theorem test_k9 : seen (step (counting 0x034300C1 0 false 0 ⟨2, []⟩)) = some (0, false, false, []) := by decide
theorem test_k11 : seen (step (counting 0x01C300C1 0 false 0 ⟨0, []⟩)) = some (1, true, true, [.togglePM .core0 .c0]) := by
  decide
theorem test_k14 : seen (step (counting 0x004700C1 0 false 0 ⟨2, []⟩)) = some (1, true, true, [.togglePM .core0 .c0]) := by
  decide
theorem test_k15 : seen (step (counting 0x004700C1 1 true 0 ⟨3, []⟩)) = some (1, true, false, []) := by decide
theorem test_k18 : seen (step (counting 0x005B00C1 0xFFFFFFFFFFFE false 0 ⟨3, []⟩)) =
    some (1, true, true, [.apicPerfInt .core0 .c0, .togglePM .core0 .c0]) := by decide
theorem test_k19 : seen (step (counting 0x005B00C1 0xFFFFFFFFFFFC false 0 ⟨3, []⟩)) =
    some (0xFFFFFFFFFFFF, true, false, []) := by decide
/-- K27: UNIT_MASK 0 on an event with a table selects nothing. -/
theorem test_k27 : seen (step (counting 0x004300E0 10 false 0 ⟨3, [1, 1, 1]⟩)) = some (10, false, false, []) := by decide
/-- K28: UNIT_MASK on an event without a table is ignored. -/
theorem test_k28 : seen (step (counting 0x0043FF40 10 false 0 ⟨2, []⟩)) = some (12, true, true, [.togglePM .core0 .c0]) := by
  decide
/-- R122: the selected rows add, here 1 and 1 of event 42h (rows 01h and 04h), the others not. -/
theorem test_unit_mask_rows_add : seen (step (counting 0x00430542 0 false 0 ⟨0, [1, 3, 1, 3, 3]⟩)) =
    some (2, true, true, [.togglePM .core0 .c0]) := by decide
/-- U25: a sum is clipped to 3. -/
theorem test_unit_mask_sum_clipped : seen (step (counting 0x00431F42 0 false 0 ⟨0, [1, 3, 1, 3, 3]⟩)) =
    some (3, true, true, [.togglePM .core0 .c0]) := by decide
/-- R207: the cycle rows of event 24h count a clock once. -/
theorem test_locked_cycles : seen (step (counting 0x00430224 0 false 0 ⟨0, [3, 3, 3]⟩)) =
    some (1, true, true, [.togglePM .core0 .c0]) := by decide
/-- R287: F4h selects A4h, 94h and 64h and none of the other paths. -/
theorem test_request_flow_paths : eventE9h.occ 0xF4 ⟨0, [3, 1, 3, 3, 3, 1, 3, 3, 1, 3]⟩ = 3 ∧
    eventE9h.occ 0xF4 ⟨0, [3, 1, 3, 3, 3, 0, 3, 3, 1, 3]⟩ = 2 := by decide
/-- U7: 68h names only a path that is not supported, 64h a supported one; FFh names all. -/
theorem test_request_flow_undefined : eventE9h.unitMaskUndefined .eOrLater 0xFF 0x68 = true ∧
    eventE9h.unitMaskUndefined .eOrLater 0xFF 0x64 = false ∧ eventE9h.unitMaskUndefined .eOrLater 0xFF 0xFF = false := by
  decide
/-- R8, U9: a part that does not list event C1h, or a UNIT_MASK bit of event E0h, has an undefined configuration. -/
theorem test_unlisted_event : eventC1h.undefinedOn .eOrLater none 0 = true ∧
    eventE0h.undefinedOn .eOrLater (some 0x03) 0x04 = true ∧ eventE0h.undefinedOn .eOrLater (some 0x03) 0x03 = false := by
  decide
/-- R297: event E5h needs revision D, row 40h of event ECh too. -/
theorem test_revisions : eventE5h.undefinedOn .beforeD (some 0x3C) 0x04 = true ∧
    eventE5h.undefinedOn .d (some 0x3C) 0x04 = false ∧ eventECh.undefinedOn .beforeD (some 0x7F) 0x40 = true ∧
    eventECh.undefinedOn .beforeD (some 0x7F) 0x20 = false := by decide
/-- S4, S8, S9 of `95_test_vectors.md` 1. -/
theorem test_measures : linkUtilisation 600 400 = some (3 / 5) ∧ dramBytes .dualChannel 2000 = 128000 ∧
    Turnaround.dimm.lostBytes .dualChannel = 64 ∧ Turnaround.readWrite.lostBytes .dualChannel = 32 ∧
    (Turnaround.readWriteCas 3).lostBytes .dualChannel = 64 := by
  refine ⟨?_, by decide, by decide, by decide, by decide⟩
  norm_num [linkUtilisation]
/-- R242: event 76h occurs in every unhalted clock. -/
theorem test_unhalted_clock : seen (step (counting 0x00430076 0 false 0 ⟨0, []⟩)) =
    some (1, true, true, [.togglePM .core0 .c0]) := by decide
/-- K22: a halted core counts nothing and keeps its detector. -/
theorem test_k22 : seen (step { counting 0x004300C1 10 false 0 ⟨3, []⟩ with
    env := { (counting 0x004300C1 10 false 0 ⟨3, []⟩).env with core0 := ⟨0, true, false, false⟩ } }) =
    some (10, false, false, []) := by decide
/-- K29: an undefined configuration that is disabled changes no count. -/
theorem test_k29 : (seen (step (counting 0x04030003 10 false 0 ⟨3, []⟩))).map (fun x => (x.1, x.2.2)) =
    some (10, false, []) := by decide

/-! ### The register-access instructions (`95_test_vectors.md` 2.2): core 0 with the given ECX, EDX, EAX -/

def accessing (k : Core) (cpl : BitVec 2) (ecx edx eax : Quad) : State :=
  { State.reset with
    core0 := { k with rcx := ecx, rdx := edx, rax := eax }
    env := { Env.reset with core0 := { CoreEnv.reset with cpl := cpl } } }

/-- EDX, EAX, the program counter, and the exception raised. -/
def result (o : Host.Outcome State Fault Refusal) : Option (Quad × Quad × Quad × Option Trap) :=
  match o with
  | .next t => some (t.core0.rdx, t.core0.rax, t.core0.pc, t.core0.pendingTrap)
  | .fault _ => none
  | .refused _ => none

def holding (i : CtrId) (sel : Quad) (ctr : Count) : Core :=
  { Core.reset with pc := 0 }.setCounter i { sel := sel, ctr := ctr, prev := false, pin := false }

theorem test_v1 : (match exec .wrmsr (accessing (holding .c0 0 0) 0 0xC0010000 0 0x004300C0) with
    | .next t => decide ((t.core0.counter .c0).sel = 0x004300C0 ∧ t.core0.pc = 2 ∧ t.core0.rax = 0x004300C0)
    | _ => false) = true := by decide
theorem test_v2 : result (exec .rdmsr (accessing (holding .c0 0x004300C0 0) 0 0xC0010000 0xFFFFFFFF 0xFFFFFFFF)) =
    some (0, 0x004300C0, 2, none) := by decide
theorem test_v3 : (match exec .wrmsr (accessing (holding .c3 0x00030000 0) 0 0xC0010007 0x1234 0x56789ABC) with
    | .next t => decide ((t.core0.counter .c3).ctr = 0x123456789ABC)
    | _ => false) = true := by decide
theorem test_v4 : result (exec .rdpmc (accessing (holding .c3 0 0x123456789ABC) 0 3 0 0)) =
    some (0x1234, 0x56789ABC, 2, none) := by decide
theorem test_v5 : result (exec .rdmsr (accessing (holding .c3 0 0x123456789ABC) 0 0xC0010007 0 0)) =
    some (0x1234, 0x56789ABC, 2, none) := by decide
theorem test_v8 : result (exec .rdpmc (accessing (holding .c0 0 0) 0 0xFFFFFFFF 0xAA 0xBB)) =
    some (0xAA, 0xBB, 0, some ⟨13, 0, 0⟩) := by decide
theorem test_v11 : (match exec .wrmsr (accessing (holding .c0 0 0) 3 0xC0010000 0 0x004300C0) with
    | .next t => decide ((t.core0.counter .c0).sel = 0 ∧ t.core0.pendingTrap = some ⟨13, 0, 0⟩)
    | _ => false) = true := by decide
theorem test_v19 : (match exec .rdmsr (accessing (holding .c0 0 0) 0 0xC0010008 0 0) with
    | .refused .msrOutsideFacility => true
    | _ => false) = true := by decide
/-- V22: in 64-bit mode the upper halves are cleared and only RCX[31:0] is used. -/
theorem test_v22 : result (exec .rdpmc
    { accessing (holding .c1 0 5) 0 0x1234567800000001 0xFFFFFFFFFFFFFFFF 0xFFFFFFFFFFFFFFFF with
      env := { Env.reset with core0 := { CoreEnv.reset with longMode := true } } }) = some (0, 5, 2, none) := by decide

/-- The first step after reset with a row's word runs that row's instruction. -/
theorem test_first_step_rdpmc : step (State.reset.withFetchWord 16 0x0F33) =
    advanceOutcome (exec .rdpmc (State.reset.withFetchWord 16 0x0F33)) := by rfl
theorem test_first_step_event : step (State.reset.withFetchWord 8 0xE9) =
    advanceOutcome (exec (.evtE9h ⟨0, false, false, false, false, false, false, false, 0⟩)
      (State.reset.withFetchWord 8 0xE9)) := by rfl

/-! ### For each obligation with hypotheses, a state and operands that meet them -/

/-- Core 0's instruction agent about to run the two bytes at address 0. -/
def fetching (k : Core) (b c : Byte) : State :=
  { State.reset with core0 := { k with pc := 0 }, mem := [(0, b), (1, c)] }

theorem witness_StepRunsTheFetchedInstruction : let s := fetching Core.reset 0x0F 0x33
    s.env.agent = .instr ∧ s.lines.halted = false ∧ s.cur.pendingTrap = none ∧
    memRead s.mem s.cur.pc.toNat = some 0x0F ∧ memRead s.mem (s.cur.pc + 1).toNat = some 0x33 ∧
    decodeBytes [0x0F, 0x33] = .ok .rdpmc ∧ ¬(Instr.rdpmc = .wrmsr ∧ s.cur.clockOwed = true) := by decide

theorem witness_StepRunsTheSelectedEvent : let s := counting 0x004300C1 0 false 0 ⟨3, []⟩
    s.env.agent = .count ∧ decodeControl (s.cur.counter s.ctr).sel = .ok (.evtC1h (plain 0)) := by decide

theorem witness_StepRunsTheSelectedEvent_last : let s := { counting 0x00430000 0 false 0 ⟨3, []⟩ with ctr := .c3 }
    s.env.agent = .count ∧ s.ctr = .c3 ∧ s.lines.halted = false ∧
    decodeControl (s.cur.counter s.ctr).sel = .ok (.evt00h ⟨0, false, false, false, false, false, false, false, 0⟩) := by
  decide

theorem witness_ReservedCodesCountADraw : let s := counting 0x00430003 10 false 0 ⟨0, []⟩
    s.env.agent = .count ∧ s.lines.halted = false ∧
    decodeControl (s.cur.counter s.ctr).sel = .error .reservedEvent := by decide

theorem witness_EncodeUndoesDecode : decodeControl 0xFFFFFFFFFFFFFFC0 =
    .ok (.evtC0h ⟨0xFF, true, true, true, true, true, true, true, 0xFF⟩) ∧ decodeBytes [0x0F, 0x30] = .ok .wrmsr := by
  decide

theorem witness_WrmsrWritesAnEventSelectRegister : let s := accessing Core.reset 0 0xC0010003 0 0x004300C0
    s.lines.cpl = 0 ∧ s.cur.ecx = selAddress .c3 ∧ s.cur.edx = 0 ∧ s.cur.eax.getLsbD 21 = false := by decide

theorem witness_WrmsrWritesACounter : let s := accessing Core.reset 0 0xC0010004 0xFFFF 0xFFFFFC18
    s.lines.cpl = 0 ∧ s.cur.ecx = ctrAddress .c0 ∧ s.cur.edx.extractLsb' 16 16 = 0 := by decide

/-- V15 and V17: bit 21 of PerfEvtSel1, bits 63-48 of PerfCtr0. -/
theorem witness_ReservedBitWritesFollowThePolicy :
    (let s := accessing Core.reset 0 0xC0010001 0 0x006300C0;
      s.lines.cpl = 0 ∧ s.cur.ecx = (if true then selAddress .c1 else ctrAddress .c1) ∧
      (s.cur.edx ++ s.cur.eax : Quad) &&& (if true then 0xFFFFFFFF00200000 else 0xFFFF000000000000) ≠ 0) ∧
    (let s := accessing Core.reset 0 0xC0010004 0xFFFFFFFF 0xFFFFFC18;
      s.lines.cpl = 0 ∧ s.cur.ecx = (if false then selAddress .c0 else ctrAddress .c0) ∧
      (s.cur.edx ++ s.cur.eax : Quad) &&& (if false then 0xFFFFFFFF00200000 else 0xFFFF000000000000) ≠ 0) := by decide

theorem witness_RdmsrReadsAnEventSelectRegister : let s := accessing Core.reset 0 0xC0010000 7 7
    s.lines.cpl = 0 ∧ s.cur.ecx = selAddress .c0 := by decide

theorem witness_RdmsrReadsACounter : let s := accessing Core.reset 0 0xC0010007 7 7
    s.lines.cpl = 0 ∧ s.cur.ecx = ctrAddress .c3 := by decide

/-- At CPL 0, and at CPL 3 with the control bit set. -/
theorem witness_RdpmcReadsACounter :
    (let s := accessing Core.reset 0 3 7 7;
      (s.lines.cpl = 0 ∨ s.lines.rdpmcUserAllowed = true) ∧ s.cur.ecx = pmcIndex .c3) ∧
    (let s := { State.reset with env := { Env.reset with core0 := ⟨3, false, true, false⟩ } };
      (s.lines.cpl = 0 ∨ s.lines.rdpmcUserAllowed = true) ∧ s.cur.ecx = pmcIndex .c0) := by decide

theorem witness_RdpmcAndRdmsrReadTheSameValue : let s := accessing Core.reset 0 2 7 7
    let s' := accessing Core.reset 0 0xC0010006 7 7
    s' = s.setCur { s.cur with rcx := s'.cur.rcx } ∧ s.lines.cpl = 0 ∧ s.cur.ecx = pmcIndex .c2 ∧
    s'.cur.ecx = ctrAddress .c2 := by decide

theorem witness_MissingPrivilegeRaisesGP : let s := accessing Core.reset 3 0xC0010000 0 0
    s.lines.cpl ≠ 0 ∧ s.lines.rdpmcUserAllowed = false := by decide

/-- The index at its boundary 4. -/
theorem witness_RdpmcOfNoCounterRaisesGP : (accessing Core.reset 0 4 0 0).cur.ecx.toNat > 3 := by decide

/-- The addresses next to the eight on both sides. -/
theorem witness_OtherMsrsAreRefused :
    (let s := accessing Core.reset 0 0xC000FFFF 0 0;
      s.lines.cpl = 0 ∧ s.cur.ecx.toNat < 0xC0010000) ∧
    (let s := accessing Core.reset 0 0xC0010008 0 0;
      s.lines.cpl = 0 ∧ s.cur.ecx.toNat > 0xC0010007) := by decide

/-- An instruction that completes, and one that raises. -/
theorem witness_RegisterInstructionsMovePcOrRaise : ∃ t t',
    exec .rdpmc (accessing Core.reset 0 1 0 0) = .next t ∧ t.cur.pc = (accessing Core.reset 0 1 0 0).cur.pc + 2 ∧
    exec .rdmsr (accessing Core.reset 3 1 0 0) = .next t' ∧ t'.cur.pendingTrap ≠ none :=
  ⟨_, _, rfl, by decide, rfl, by decide⟩

theorem witness_RegisterInstructionFrames : ∃ t, exec .wrmsr (accessing Core.reset 0 0xC0010002 0 0x00430076) = .next t :=
  ⟨_, rfl⟩

theorem witness_EventsWithoutATableCountOccurrences : let s := counting 0x004300C0 10 false 0 ⟨2, []⟩
    s.lines.halted = false ∧ PlainFieldsDefined (plain 0) ∧ ¬OtherCoreSelectsNorthbridge s := by decide

theorem witness_CycleEventsCountTheClocksOfACondition : let s := counting 0x004300CD 10 false 0 ⟨1, []⟩
    s.lines.halted = false ∧ PlainFieldsDefined { plain 0 with cntMask := 3, invert := true } ∧
    ¬OtherCoreSelectsNorthbridge s := by decide

theorem witness_UnhaltedClocksCountEveryClock : let s := counting 0x00430076 10 false 0 ⟨0, []⟩
    s.lines.halted = false ∧ PlainFieldsDefined (plain 0) ∧ ¬OtherCoreSelectsNorthbridge s := by decide

/-- The last and the first row of the list, and a mask of ECh with and without the row of revision D. -/
theorem witness_TableEventsAddTheSelectedRows : let s := counting 0x00433F00 10 false 0 ⟨0, [1, 1]⟩
    s.lines.halted = false ∧ PlainFieldsDefined (plain 0x3F) ∧ ¬OtherCoreSelectsNorthbridge s ∧
    (plain 0x3F).unitMask &&& ~~~(0x3F : BitVec 8) = 0 ∧ (plain 0x40).unitMask &&& ~~~(0x7F : BitVec 8) = 0 := by decide

theorem witness_RequestFlowEventCountsTheSupportedPaths : let s := counting 0x0043B8E9 10 false 0 ⟨0, [1]⟩
    s.lines.halted = false ∧ PlainFieldsDefined (plain 0xB8) ∧ ¬OtherCoreSelectsNorthbridge s ∧
    ∃ p ∈ requestPaths, (plain 0xB8).unitMask &&& p = p := by decide

/-- Each of the two conditions: CNT_MASK 4, and INV with CNT_MASK 0. -/
theorem witness_ReservedFieldsCountADraw : let q := { plain 0 with cntMask := 4 }
    let q' := { plain 0 with invert := true }
    qualifiers (.evtC1h q) = some q ∧ qualifiers (.evtC1h q') = some q' ∧
    (counting 0x044300C1 10 false 0 ⟨0, []⟩).lines.halted = false ∧ q.cntMask.toNat ≥ 4 ∧
    (q'.cntMask = 0 ∧ q'.invert = true) := by decide

/-- K26 for the first clause; the four conditions of E9h for the second. -/
theorem witness_UndefinedUnitMasksCountADraw : (counting 0x004308E0 10 false 0 ⟨0, []⟩).lines.halted = false ∧
    (plain 0x08).unitMask &&& ~~~(0x07 : BitVec 8) ≠ 0 ∧ (plain 0xA0).unitMask.extractLsb' 0 4 = 0 ∧
    (plain 0x28).unitMask.extractLsb' 6 2 = 0 ∧ (plain 0x88).unitMask.extractLsb' 4 2 = 0 ∧
    ∀ p ∈ requestPaths, (plain 0x68).unitMask &&& p ≠ p := by decide

/-- Core 1 has counter 0 enabled on event E0h. -/
def sharing : State :=
  { counting 0x004300C0 10 false 0 ⟨1, []⟩ with
    core1 := Core.reset.setCounter .c0 { sel := 0x004307E0, ctr := 0, prev := false, pin := false } }

theorem witness_NorthbridgeEventOnTheOtherCoreGivesADraw : qualifiers (.evtC0h (plain 0)) = some (plain 0) ∧
    sharing.lines.halted = false ∧ OtherCoreSelectsNorthbridge sharing := by decide

def halted : State :=
  { State.reset with env := { Env.reset with core0 := { CoreEnv.reset with halted := true } } }

/-- The clauses about a halted core, and the one about an unhalted clock. -/
theorem witness_HaltedCoresCountNothing : let s := { halted with env := { halted.env with agent := .count } }
    let u := counting 0x00430076 10 false 0 ⟨0, []⟩
    s.env.agent = .count ∧ s.lines.halted = true ∧ qualifiers (.evtE0h (plain 7)) = some (plain 7) ∧
    u.lines.halted = false ∧ PlainFieldsDefined (plain 0) ∧ ¬OtherCoreSelectsNorthbridge u := by decide

theorem witness_EveryEventCountsByR135AndChangesNothingElse :
    qualifiers (.evtF8h (plain 0xFF)) = some (plain 0xFF) ∧
    (counting 0x0043FFF8 10 false 0 ⟨0, []⟩).lines.halted = false := by decide

/-- EN = 0; OS = 0 at CPL 0; USR = 0 at CPL 3. -/
theorem witness_ClosedGateKeepsTheCounter : let q := { plain 0 with enable := false, os := false, usr := false }
    qualifiers (.evtC0h q) = some q ∧ q.enable = false ∧
    ((counting 0 0 false 0 ⟨0, []⟩).lines.cpl = 0 ∧ q.os = false) ∧
    ((counting 0 0 false 3 ⟨0, []⟩).lines.cpl ≠ 0 ∧ q.usr = false) := by decide

/-- Edge mode; a threshold on an event without a table, on one with a table, and on E9h with one supported path. -/
theorem witness_EdgeModeAndThresholdsAdvanceByAtMostOne :
    let q := fun um : BitVec 8 => { plain um with edge := true, cntMask := 3 }
    qualifiers (.evt23h (q 0)) = some (q 0) ∧ (q 0).edge = true ∧ 1 ≤ (q 0).cntMask.toNat ∧ (q 0).cntMask.toNat ≤ 3 ∧
    UnitMaskDefined (codeOf (.evt23h (q 0))) 0 ∧ UnitMaskDefined (codeOf (.evt42h (q 0x1F))) 0x1F ∧
    UnitMaskDefined (codeOf (.evtE9h (q 0x61))) 0x61 ∧
    ¬OtherCoreSelectsNorthbridge (counting 0x03470023 10 false 0 ⟨1, []⟩) ∧
    partHas (counting 0x03470023 10 false 0 ⟨1, []⟩) 0x23 0 = true := by decide

theorem witness_OverflowRequestsAndPinToggles : qualifiers (.evtC0h (plain 0)) = some (plain 0) ∧
    (counting 0x004300C0 0xFFFFFFFFFFFF false 0 ⟨1, []⟩).lines.halted = false := by decide

/-- Two states whose counters 1 and general registers differ. -/
theorem witness_CountersDoNotAffectEachOther : let s := counting 0x004300C0 10 false 0 ⟨1, []⟩
    let s' := { s with core0 := { s.core0.setCounter .c1 ⟨0x00430076, 9, true, true⟩ with rax := 1 }, mem := [(0, 1)] }
    s ≠ s' ∧ qualifiers (.evtC0h (plain 0)) = some (plain 0) ∧ s.env = s'.env ∧ s.ctr = s'.ctr ∧ s.tick = s'.tick ∧
    s.events = s'.events ∧ s.cur.counter s.ctr = s'.cur.counter s'.ctr ∧
    ((s.core s.env.core.other).counter s.ctr).sel = ((s'.core s'.env.core.other).counter s'.ctr).sel := by decide

theorem witness_FourStepsAreOneClockOfR135 : let s := counting 0x004300C0 10 false 0 ⟨1, []⟩
    s.env.agent = .count ∧ s.ctr = .c0 ∧ s.lines.halted = false := by decide

/-- In user mode with USR alone; the part has the event. -/
theorem witness_PreloadedCounterOverflowsAfterItsUnits : let s := counting 0x005100C0 0xFFFFFFFFFFFD false 3 ⟨1, []⟩
    let q := { plain 0 with intEnable := true, os := false }
    q.edge = false ∧ q.enable = true ∧ q.cntMask = 0 ∧ q.invert = false ∧ LevelSelected s q ∧
    s.lines.halted = false ∧ ¬OtherCoreSelectsNorthbridge s ∧ partHas s (codeOf (.evtC0h q)) q.unitMask = true := by
  decide

theorem witness_EventChangedWhileEnabledCountsOneFalseEdge : let s := counting 0x00470076 0 false 0 ⟨0, []⟩
    let q := { plain 0 with edge := true }
    q.edge = true ∧ q.enable = true ∧ LevelSelected s q ∧ q.cntMask = 0 ∧ q.invert = false ∧
    s.lines.halted = false ∧ ¬OtherCoreSelectsNorthbridge s ∧ (s.cur.counter s.ctr).prev = false ∧
    s.env.core = s.env.core ∧ (s.env.lines s.env.core).halted = false ∧ partHas s 0x76 q.unitMask = true := by decide

theorem witness_TwoWriteProcedureCountsNoFalseEdge : let s := counting 0x00070076 0 false 0 ⟨0, []⟩
    let q := { plain 0 with edge := true }
    q.edge = true ∧ q.cntMask = 0 ∧ q.invert = false ∧ s.lines.halted = false ∧ ¬OtherCoreSelectsNorthbridge s ∧
    (Env.reset.core = s.env.core) ∧ (Env.reset.lines Env.reset.core).halted = false := by decide

/-- RDPMC about to be fetched: the invariant holds, and the step completes. -/
theorem witness_EveryStepKeepsTheInvariant :
    Inv (fetching Core.reset 0x0F 0x33) ∧ ∃ t, step (fetching Core.reset 0x0F 0x33) = .next t := by
  refine ⟨⟨by decide, ?_, ?_, ?_, fun _ => rfl, fun _ => rfl⟩, _, rfl⟩
  · intro c i
    cases c <;> cases i <;> decide
  · intro c t h
    cases c <;> cases h
  · intro c t h
    cases c <;> cases h

theorem witness_NoStepChangesMemory : ∃ t, step (fetching Core.reset 0x0F 0x33) = .next t := ⟨_, rfl⟩

theorem witness_HardwareNeverWritesPerfEvtSel : ∃ t,
    step (fetching { Core.reset with rcx := 0xC0010003, rax := 0x00430076 } 0x0F 0x30) = .next t ∧
    ((t.core .core0).counter .c3).sel ≠ 0 := ⟨_, rfl, by decide⟩

/-- Counting, and WRMSR of PerfCtr3. -/
theorem witness_CountersChangeOnlyByCountingOrWrmsr :
    (∃ t, step (counting 0x004300C1 0xFFFFFFFFFFFF false 0 ⟨1, []⟩) = .next t ∧
      ((t.core .core0).counter .c0).ctr ≠ 0xFFFFFFFFFFFF) ∧
    (∃ t, step (fetching { Core.reset with rcx := 0xC0010007, rax := 1 } 0x0F 0x30) = .next t ∧
      ((t.core .core0).counter .c3).ctr ≠ 0) := ⟨⟨_, rfl, by decide⟩, _, rfl, by decide⟩

theorem witness_RequestsComeOnlyFromOverflows : ∃ t, step (counting 0x005300C1 0xFFFFFFFFFFFD false 0 ⟨3, []⟩) = .next t ∧
    t.outputs = [] ++ [.apicPerfInt .core0 .c0, .togglePM .core0 .c0] := ⟨_, rfl, by decide⟩

theorem witness_OutputsAreNeverWithdrawn : ∃ t, step (counting 0x005300C1 0xFFFFFFFFFFFF false 0 ⟨1, []⟩) = .next t ∧
    t.outputs.length = 2 := ⟨_, rfl, by decide⟩

/-- Core 0 in user mode about to run the two bytes at address 0. -/
def userFetching (k : Core) (b c : Byte) : State :=
  { fetching k b c with env := { Env.reset with core0 := { CoreEnv.reset with cpl := 3 } } }

theorem witness_UserModeInstructionsCannotChangeTheFacility :
    let s := userFetching { Core.reset with rcx := 0xC0010000, rax := 0x00430076 } 0x0F 0x30
    s.env.agent = .instr ∧ s.lines.cpl ≠ 0 ∧ ∃ t, step s = .next t := ⟨rfl, by decide, _, rfl⟩

theorem witness_SecondWrmsrWaitsForAClock : let s := fetching { Core.reset with clockOwed := true } 0x0F 0x30
    s.env.agent = .instr ∧ s.lines.halted = false ∧ s.cur.pendingTrap = none ∧ fetched s = .ok .wrmsr ∧
    s.cur.clockOwed = true := by decide

theorem witness_RaisedExceptionIsTaken : let s := fetching { Core.reset with pendingTrap := some ⟨13, 0, 8⟩ } 0x0F 0x30
    s.env.agent = .instr ∧ s.lines.halted = false ∧ s.cur.pendingTrap = some ⟨13, 0, 8⟩ := by decide

/-- With a request of this core, and with a request of the other core only. -/
theorem witness_RequestedInterruptMayBeRecognised :
    let s := { State.reset with env := { Env.reset with agent := .interrupt }, outputs := [.apicPerfInt .core0 .c3] }
    let s' := { State.reset with env := { Env.reset with agent := .interrupt }, outputs := [.apicPerfInt .core1 .c3] }
    s.env.agent = .interrupt ∧ Output.apicPerfInt s.env.core .c3 ∈ s.outputs ∧ s'.env.agent = .interrupt ∧
    ∀ i, Output.apicPerfInt s'.env.core i ∉ s'.outputs :=
  ⟨rfl, by decide, rfl, by intro i; cases i <;> decide⟩

theorem witness_HaltedInstructionAgentIdles : halted.env.agent = .instr ∧ halted.lines.halted = true := by decide

/-- Another first byte; a second byte next to 30h; no byte at all; a first byte at the top of the address space. -/
theorem witness_OtherInstructionsAreRefused :
    (let s := fetching Core.reset 0x0E 0x30;
      s.env.agent = .instr ∧ s.lines.halted = false ∧ s.cur.pendingTrap = none ∧
      memRead s.mem s.cur.pc.toNat = some 0x0E) ∧
    (let s := fetching Core.reset 0x0F 0x31;
      memRead s.mem s.cur.pc.toNat = some 0x0F ∧ memRead s.mem (s.cur.pc + 1).toNat = some 0x31) ∧
    memRead State.reset.mem State.reset.cur.pc.toNat = none ∧
    (let s := { State.reset with
        core0 := { Core.reset with pc := 0xFFFFFFFFFFFFFFFF }, mem := [(0xFFFFFFFFFFFFFFFF, 0x0F)] };
      memRead s.mem s.cur.pc.toNat = some 0x0F ∧ memRead s.mem (s.cur.pc + 1).toNat = none) := by decide

/-- Each clause at a boundary of CNT_MASK: 0, 1, 3, 4, and INV alone. -/
theorem witness_ThresholdsFollowTheCounterMask :
    (plain 0).cntMask = 0 ∧ (plain 0).invert = false ∧ 1 ≤ ({ plain 0 with cntMask := 1 } : Qualifiers).cntMask.toNat ∧
    ({ plain 0 with cntMask := 3 } : Qualifiers).cntMask.toNat ≤ 3 ∧
    ({ plain 0 with cntMask := 4 } : Qualifiers).cntMask.toNat ≥ 4 ∧
    ({ plain 0 with invert := true } : Qualifiers).invert = true := by decide

theorem witness_NoStepChangesThePart : ∃ t, step (fetching Core.reset 0x0F 0x33) = .next t := ⟨_, rfl⟩

end Sys2Proof.Tests
end

/-! ### No step changes the part (`00_scope.md`, R8)

Parameter `EVENTS` stands in the state. Each state operation keeps it, so each instruction keeps it, and so each step. -/

namespace Sys2Proof.Machine

/-- The three register-access instructions and the events of the catalogue are all the instructions there are. -/
theorem register_or_event (i : Instr) :
    i = .wrmsr ∨ i = .rdmsr ∨ i = .rdpmc ∨ ∃ e q, eventOf i = some e ∧ qualifiers i = some q := by
  cases i with
  | wrmsr => exact .inl rfl
  | rdmsr => exact .inr (.inl rfl)
  | rdpmc => exact .inr (.inr (.inl rfl))
  | _ q => exact .inr (.inr (.inr ⟨_, q, rfl, rfl⟩))

@[simp] theorem events_raiseGP (s : State) : (raiseGP s).events = s.events :=
  State.events_setCur ..

@[simp] theorem events_enterTrap (e : Trap) (s : State) : (enterTrap e s).events = s.events :=
  State.events_setCur ..

@[simp] theorem events_takeInterrupt (s : State) : (takeInterrupt s).events = s.events := by
  unfold takeInterrupt
  split
  · exact State.events_setCur ..
  · rfl

@[simp] theorem events_completeWrmsr (r : MsrReg) (s : State) : (completeWrmsr r s).events = s.events :=
  State.events_setCur ..

@[simp] theorem events_applyAmount (a : Nat) (q : Qualifiers) (s : State) : (applyAmount a q s).events = s.events :=
  State.events_setCur ..

@[simp] theorem events_countEvent (e : Event) (q : Qualifiers) (s : State) : (countEvent e q s).events = s.events := by
  unfold countEvent
  split
  · rfl
  · exact events_applyAmount ..

@[simp] theorem events_countReserved (q : Qualifiers) (s : State) : (countReserved q s).events = s.events := by
  unfold countReserved
  split
  · rfl
  · exact events_applyAmount ..

theorem exec_keeps_events {i : Instr} {s t : State} (h : exec i s = .next t) : t.events = s.events := by
  obtain rfl | rfl | rfl | ⟨e, q, he, hq⟩ := register_or_event i
  · obtain rfl | ⟨_, r, _, rfl⟩ := execWrmsr_cases h <;> simp
  · obtain rfl | ⟨_, r, _, rfl⟩ := execRdmsr_cases h <;> simp
  · obtain rfl | ⟨j, _, rfl⟩ := execRdpmc_cases h <;> simp
  · rw [exec_event he hq] at h
    cases h
    exact events_countEvent ..

theorem step_keeps_events {s t : State} (h : step s = .next t) : t.events = s.events := by
  obtain ⟨_, hinstr⟩ | ⟨_, hcount⟩ | ⟨_, rfl⟩ := step_cases h
  · obtain ⟨_, rfl⟩ | ⟨e, _, rfl⟩ | ⟨i, _, ⟨_, rfl⟩ | ⟨u, hu, rfl⟩⟩ := hinstr
    · exact events_advance s
    · simp
    · exact events_advance s
    · rw [events_advance, exec_keeps_events hu]
  · obtain ⟨i, u, _, hu, rfl⟩ | ⟨e, _, rfl⟩ := hcount
    · rw [events_advance, exec_keeps_events hu]
    · simp
  · simp

/-- The default of `EVENTS` against R77's map of codes and R79's table of UNIT_MASK bits, over all 256 codes (U9). -/
theorem bitsOf_allEvents (code : BitVec 8) : Config.allEvents.bitsOf code =
    if (instrOfCode code (qualifiersOf 0)).isSome then some (tableBits code) else none := by
  revert code
  decide

/-- Settles O42: every step keeps the list, and the list at reset is the default one. -/
theorem noStepChangesThePart : Obligations.NoStepChangesThePart :=
  ⟨fun _ _ h => step_keeps_events h, bitsOf_allEvents⟩

end Sys2Proof.Machine

/-! ### The registers of the facility: their addresses, their reset, and what changes them (`10_state.md`)

A step leaves each counter with its PerfEvtSel as it was, or counts it, or writes one of its two registers by a WRMSR:
`step_counter_cases` says so once, and the two statements on changed registers are read off from it. -/

namespace Sys2Proof.Machine

/-! #### The address map and the state after reset -/

theorem msrAt_eq_ctr_iff (a : Word) (i : CtrId) : msrAt a = some (.ctr i) ↔ a = ctrAddress i := by
  constructor
  · intro h
    obtain ⟨j, hj, _⟩ | ⟨j, hj, ha⟩ := msrAt_eq_some h
    · cases hj
    · cases hj
      exact ha
  · rintro rfl
    exact msrAt_ctrAddress i

theorem toNat_ctrAddress (i : CtrId) : (ctrAddress i).toNat = 0xC0010004 + ctrNumber i := by
  cases i <;> rfl

/-- Settles O7: the map's counter entries are the four addresses of R21. -/
theorem countersStandAtTheirAddresses : Obligations.CountersStandAtTheirAddresses := by
  intro a i
  rw [msrAt_eq_ctr_iff, ← toNat_ctrAddress, BitVec.toNat_inj]

@[simp] theorem core_reset (c : CoreId) : State.reset.core c = Core.reset := by
  cases c <;> rfl

@[simp] theorem lines_reset (c : CoreId) : State.reset.env.lines c = CoreEnv.reset := by
  cases c <;> rfl

@[simp] theorem counter_reset (i : CtrId) : Core.reset.counter i = Counter.reset := by
  cases i <;> rfl

/-- Settles O39: the registers are zero, nothing is raised, and core 0 stands before its first instruction. -/
theorem resetMeetsTheInvariant : Obligations.ResetMeetsTheInvariant where
  memory := rfl
  reserved c i := by
    rw [core_reset, counter_reset]
    rfl
  raised c t h := by
    rw [core_reset] at h
    cases h
  taken c t h := by
    rw [core_reset] at h
    cases h
  turn _ := rfl
  oneCore _ := rfl

/-- Settles O53: the values are those of `Counter.reset` and `CoreEnv.reset`, the same on both cores. -/
theorem resetLeavesTheCountersDisabled : Obligations.ResetLeavesTheCountersDisabled := by
  refine ⟨rfl, fun c i => ?_⟩
  rw [core_reset, counter_reset, lines_reset]
  exact ⟨rfl, rfl, rfl⟩

/-! #### The amount of a clock is at most 3 (R121, R122, U25) -/

theorem Kind.bound_le_three (k : Kind) (n : BitVec 2) : k.bound n ≤ 3 := by
  cases k with
  | occurrence => exact Nat.le_of_lt_succ n.isLt
  | cycle =>
    unfold Kind.bound
    dsimp only
    split <;> omega

theorem Event.occ_le_three (e : Event) (um : BitVec 8) (inp : EventInput) : e.occ um inp ≤ 3 := by
  unfold Event.occ
  split
  · exact Kind.bound_le_three _ _
  · omega
  · exact Nat.min_le_left ..
  · exact Nat.min_le_left ..

/-- Comparing with CNT_MASK gives the number itself or a 0 or 1. -/
theorem threshold_le_three (q : Qualifiers) {n : Nat} (h : n ≤ 3) : threshold q n ≤ 3 := by
  unfold threshold
  repeat' split
  all_goals omega

theorem eventAmount_le_three (e : Event) (q : Qualifiers) (s : State) : eventAmount e q s ≤ 3 := by
  unfold eventAmount amountOf
  split
  · exact Nat.le_of_lt_succ (Config.draw s.tick).isLt
  · exact threshold_le_three q (Event.occ_le_three ..)

theorem specInc_le_three (q : Qualifiers) (cpl : BitVec 2) (prev : Bool) {a : Nat} (h : a ≤ 3) :
    specInc q cpl prev a ≤ 3 := by
  unfold specInc
  repeat' split
  all_goals omega

theorem toNat_ctr_specCounter (q : Qualifiers) (cpl : BitVec 2) (a : Nat) (n : Counter) :
    (specCounter q cpl a n).ctr.toNat = (n.ctr.toNat + specInc q cpl n.prev a) % 2 ^ 48 := by
  simp [specCounter]

/-- R130: a counter that a clock changes goes up by 1 to 3, modulo 2^48. -/
theorem specCounter_ctr_of_ne {q : Qualifiers} {cpl : BitVec 2} {a : Nat} {n : Counter} (ha : a ≤ 3)
    (hne : (specCounter q cpl a n).ctr ≠ n.ctr) :
    ∃ d, 1 ≤ d ∧ d ≤ 3 ∧ (specCounter q cpl a n).ctr.toNat = (n.ctr.toNat + d) % 2 ^ 48 := by
  have hctr := toNat_ctr_specCounter q cpl a n
  refine ⟨specInc q cpl n.prev a, Nat.pos_of_ne_zero fun h0 => hne ?_, specInc_le_three q cpl n.prev ha, hctr⟩
  rw [h0, Nat.add_zero, Nat.mod_eq_of_lt n.ctr.isLt] at hctr
  exact BitVec.eq_of_toNat_eq hctr

/-! #### What each operation does to a counter and its PerfEvtSel -/

/-- Replacing the core that moves by one with the same counters changes no counter. -/
theorem counter_setCur_of_counters_eq {s : State} {k : Core} (h : k.counters = s.cur.counters) (c : CoreId) (i : CtrId) :
    ((s.setCur k).core c).counter i = (s.core c).counter i := by
  rw [State.core_setCur]
  split
  · next hc =>
    subst hc
    exact congrArg (Bank.get · i) h
  · rfl

@[simp] theorem counter_raiseGP (s : State) (c : CoreId) (i : CtrId) :
    ((raiseGP s).core c).counter i = (s.core c).counter i :=
  counter_setCur_of_counters_eq (by rfl) c i

@[simp] theorem counter_enterTrap (e : Trap) (s : State) (c : CoreId) (i : CtrId) :
    ((enterTrap e s).core c).counter i = (s.core c).counter i :=
  counter_setCur_of_counters_eq (by rfl) c i

@[simp] theorem counter_takeInterrupt (s : State) (c : CoreId) (i : CtrId) :
    ((takeInterrupt s).core c).counter i = (s.core c).counter i := by
  unfold takeInterrupt
  split
  · exact counter_setCur_of_counters_eq (by rfl) c i
  · rfl

theorem counter_completeWrmsr (r : MsrReg) (s : State) (c : CoreId) (i : CtrId) :
    ((completeWrmsr r s).core c).counter i =
      if c = s.env.core then (writeMsr s.cur r s.cur.pair).counter i else (s.core c).counter i := by
  unfold completeWrmsr
  rw [State.core_setCur]
  split <;> rfl

theorem counter_afterCounting (s : State) (q : Qualifiers) (a : Nat) (c : CoreId) (i : CtrId) :
    ((afterCounting s q a).core c).counter i =
      if c = s.env.core ∧ i = s.ctr then specCounter q s.lines.cpl a ((s.core c).counter i) else (s.core c).counter i := by
  unfold afterCounting
  rw [State.core_withOutputs, State.core_setCore]
  by_cases hc : c = s.env.core
  · subst hc
    by_cases hi : i = s.ctr
    · subst hi
      simp [State.lines]
    · simp [Core.counter_setCounter, hi]
  · simp [hc]

/-- A write changes one field of the counter at the address, and no other counter (R111). -/
theorem counter_writeMsr_cases {a : Word} {r : MsrReg} (h : msrAt a = some r) (k : Core) (v : Quad) (i : CtrId) :
    (writeMsr k r v).counter i = k.counter i ∨
      (a = selAddress i ∧ (writeMsr k r v).counter i = { k.counter i with sel := v &&& selMask }) ∨
      (a = ctrAddress i ∧ (writeMsr k r v).counter i = { k.counter i with ctr := v.setWidth 48 }) := by
  obtain ⟨j, rfl, rfl⟩ | ⟨j, rfl, rfl⟩ := msrAt_eq_some h
  · by_cases hij : i = j
    · subst hij
      exact .inr (.inl ⟨rfl, Core.counter_setCounter_same ..⟩)
    · exact .inl ((Core.counter_setCounter ..).trans (if_neg hij))
  · by_cases hij : i = j
    · subst hij
      exact .inr (.inr ⟨rfl, Core.counter_setCounter_same ..⟩)
    · exact .inl ((Core.counter_setCounter ..).trans (if_neg hij))

/-! #### What a step does to a counter and its PerfEvtSel -/

/-- R75, R76: the instruction stream holds nothing but the three register-access instructions. -/
theorem decodeBytes_eq_ok {bs : List Byte} {i : Instr} (h : decodeBytes bs = .ok i) :
    i = .wrmsr ∨ i = .rdmsr ∨ i = .rdpmc := by
  unfold decodeBytes at h
  repeat' split at h
  all_goals cases h
  · exact .inl rfl
  · exact .inr (.inl rfl)
  · exact .inr (.inr rfl)

/-- A completed WRMSR to the register at ECX is all that the instruction stream can do to a counter (R55, R103, R111). -/
theorem exec_fetched_counter_cases {s u : State} {j : Instr} (hf : fetched s = .ok j) (h : exec j s = .next u)
    (c : CoreId) (i : CtrId) :
    (u.core c).counter i = (s.core c).counter i ∨
      (j = .wrmsr ∧ s.lines.cpl = 0 ∧ c = s.env.core ∧ ∃ r, msrAt s.cur.ecx = some r ∧
        (u.core c).counter i = (writeMsr s.cur r s.cur.pair).counter i) := by
  obtain rfl | rfl | rfl := decodeBytes_eq_ok hf
  · obtain rfl | ⟨hcpl, r, hr, rfl⟩ := execWrmsr_cases h
    · exact .inl (counter_raiseGP ..)
    · rw [counter_completeWrmsr]
      split
      · next hc => exact .inr ⟨rfl, hcpl, hc, r, hr, rfl⟩
      · exact .inl rfl
  · obtain rfl | ⟨_, r, _, rfl⟩ := execRdmsr_cases h
    · exact .inl (counter_raiseGP ..)
    · exact .inl (counter_setCur_of_counters_eq (by rfl) c i)
  · obtain rfl | ⟨_, _, rfl⟩ := execRdpmc_cases h
    · exact .inl (counter_raiseGP ..)
    · exact .inl (counter_setCur_of_counters_eq (by rfl) c i)

/-- R135, R136, R137 (a): a step of the counting agent does nothing to a halted core; else it counts an amount of at most 3
under the control word of the counter whose turn it is, for an event and for a reserved code alike. -/
theorem step_count_cases {s t : State} (ha : s.env.agent = .count) (h : step s = .next t) :
    (s.lines.halted = true ∧ t = advance s) ∨
      (s.lines.halted = false ∧ ∃ a, a ≤ 3 ∧
        t = advance (afterCounting s (qualifiersOf (s.cur.counter s.ctr).sel) a)) := by
  have hcount : (∃ j u, selected s = .ok j ∧ exec j s = .next u ∧ t = advance u) ∨
      ∃ e, selected s = .error e ∧ t = advance (countReserved (qualifiersOf (s.cur.counter s.ctr).sel) s) := by
    obtain ⟨hi, _⟩ | ⟨_, hcount⟩ | ⟨hi, _⟩ := step_cases h
    · cases ha.symm.trans hi
    · exact hcount
    · cases ha.symm.trans hi
  obtain ⟨j, u, hj, hu, rfl⟩ | ⟨_, _, rfl⟩ := hcount
  · obtain ⟨e, he, hq⟩ := eventOf_decodeControl hj
    rw [exec_event he hq] at hu
    cases hu
    cases hh : s.lines.halted with
    | true => exact .inl ⟨rfl, by rw [countEvent_halted _ _ hh]⟩
    | false => exact .inr ⟨rfl, _, eventAmount_le_three .., by rw [countEvent_unhalted _ _ hh]⟩
  · cases hh : s.lines.halted with
    | true => exact .inl ⟨rfl, by simp [countReserved, hh]⟩
    | false =>
      exact .inr ⟨rfl, _, Nat.le_of_lt_succ (Config.draw s.tick).isLt, by simp [countReserved, hh, applyAmount_eq]⟩

/-- Everything a step can do to counter `i` of core `c` and its PerfEvtSel: nothing; R135's counting on the counter whose
turn it is; or a WRMSR at CPL 0 of the same core to one of the two addresses. -/
theorem step_counter_cases {s t : State} (h : step s = .next t) (c : CoreId) (i : CtrId) :
    (t.core c).counter i = (s.core c).counter i ∨
      (s.env.agent = .count ∧ c = s.env.core ∧ i = s.ctr ∧ s.lines.halted = false ∧ ∃ a, a ≤ 3 ∧
        (t.core c).counter i =
          specCounter (qualifiersOf ((s.core c).counter i).sel) s.lines.cpl a ((s.core c).counter i)) ∨
      (s.env.agent = .instr ∧ c = s.env.core ∧ s.lines.cpl = 0 ∧ fetched s = .ok .wrmsr ∧
        ((s.cur.ecx = selAddress i ∧
            (t.core c).counter i = { (s.core c).counter i with sel := s.cur.pair &&& selMask }) ∨
          (s.cur.ecx = ctrAddress i ∧
            (t.core c).counter i = { (s.core c).counter i with ctr := s.cur.pair.setWidth 48 }))) := by
  obtain ⟨hagent, hinstr⟩ | ⟨hagent, _⟩ | ⟨_, rfl⟩ := step_cases h
  · obtain ⟨_, rfl⟩ | ⟨e, _, rfl⟩ | ⟨j, hj, ⟨_, rfl⟩ | ⟨u, hu, rfl⟩⟩ := hinstr
    · exact .inl (counter_advance ..)
    · exact .inl (by simp)
    · exact .inl (counter_advance ..)
    · rw [counter_advance]
      obtain hsame | ⟨rfl, hcpl, rfl, r, hr, hw⟩ := exec_fetched_counter_cases hj hu c i
      · exact .inl hsame
      · rw [hw]
        exact (counter_writeMsr_cases hr s.cur s.cur.pair i).imp_right fun hwrite =>
          .inr ⟨hagent, rfl, hcpl, hj, hwrite⟩
  · obtain ⟨_, rfl⟩ | ⟨hh, a, ha, rfl⟩ := step_count_cases hagent h
    · exact .inl (counter_advance ..)
    · rw [counter_advance, counter_afterCounting]
      split
      · next hci =>
        obtain ⟨rfl, rfl⟩ := hci
        exact .inr (.inl ⟨hagent, rfl, rfl, hh, a, ha, rfl⟩)
      · exact .inl rfl
  · exact .inl (by simp)

/-- Settles O43: of what a step can do to a counter, only the WRMSR to its PerfEvtSel touches that register. -/
theorem hardwareNeverWritesPerfEvtSel : Obligations.HardwareNeverWritesPerfEvtSel := by
  intro s t c i h hne
  obtain hsame | ⟨_, _, _, _, a, _, hcount⟩ | ⟨hagent, hc, hcpl, hf, ⟨hecx, _⟩ | ⟨_, hctr⟩⟩ := step_counter_cases h c i
  · exact absurd (congrArg Counter.sel hsame) hne
  · exact absurd (congrArg Counter.sel hcount) hne
  · exact ⟨hagent, hc, hcpl, hf, hecx⟩
  · exact absurd (congrArg Counter.sel hctr) hne

/-- Settles O44: of what a step can do to a counter, counting and the WRMSR to its address touch the value. -/
theorem countersChangeOnlyByCountingOrWrmsr : Obligations.CountersChangeOnlyByCountingOrWrmsr := by
  intro s t c i h hne
  obtain hsame | ⟨hagent, hc, hi, hh, a, ha, hcount⟩ | ⟨hagent, hc, hcpl, hf, ⟨_, hsel⟩ | ⟨hecx, _⟩⟩ :=
    step_counter_cases h c i
  · exact absurd (congrArg Counter.ctr hsame) hne
  · rw [hcount] at hne ⊢
    exact .inl ⟨hagent, hc, hi, hh, specCounter_ctr_of_ne ha hne⟩
  · exact absurd (congrArg Counter.ctr hsel) hne
  · exact .inr ⟨hagent, hc, hcpl, hf, hecx⟩

end Sys2Proof.Machine

/-! ### Memory and the MSR address space (`20_memory.md`)

An access outside the eight addresses has no meaning (R52), a register-access instruction touches only the core that
moves (R55, R57), and no meaning reads memory: `exec_withMem` says so once, and that no instruction writes it is its
case of the memory a state already has. -/

namespace Sys2Proof.Machine

/-! #### No register outside the eight addresses -/

theorem toNat_selAddress (i : CtrId) : (selAddress i).toNat = 0xC0010000 + ctrNumber i := by
  cases i <;> rfl

theorem ctrNumber_le_three (i : CtrId) : ctrNumber i ≤ 3 := by
  cases i <;> decide

/-- R21, R24, R50: the eight registers stand at C001_0000h to C001_0007h. -/
theorem toNat_of_msrAt_eq_some {a : Word} {r : MsrReg} (h : msrAt a = some r) :
    0xC0010000 ≤ a.toNat ∧ a.toNat ≤ 0xC0010007 := by
  obtain ⟨i, _, rfl⟩ | ⟨i, _, rfl⟩ := msrAt_eq_some h
  · have hi := ctrNumber_le_three i
    rw [toNat_selAddress]
    omega
  · have hi := ctrNumber_le_three i
    rw [toNat_ctrAddress]
    omega

theorem msrAt_eq_none {a : Word} (h : a.toNat < 0xC0010000 ∨ a.toNat > 0xC0010007) : msrAt a = none := by
  cases hr : msrAt a with
  | none => rfl
  | some r =>
    obtain ⟨hlo, hhi⟩ := toNat_of_msrAt_eq_some hr
    omega

theorem privilegedOkMsr_of_cpl_zero {l : CoreEnv} (h : l.cpl = 0) : privilegedOkMsr l = true :=
  beq_iff_eq.mpr h

theorem exec_rdmsr_of_msrAt_none {s : State} (hp : privilegedOkMsr s.lines = true) (hr : msrAt s.cur.ecx = none) :
    exec .rdmsr s = .refused .msrOutsideFacility := by
  change execRdmsr s = _
  unfold execRdmsr
  rw [if_pos hp, hr]

theorem exec_wrmsr_of_msrAt_none {s : State} (hp : privilegedOkMsr s.lines = true) (hr : msrAt s.cur.ecx = none) :
    exec .wrmsr s = .refused .msrOutsideFacility := by
  change execWrmsr s = _
  unfold execWrmsr
  rw [if_pos hp, hr]

/-- Settles O18: the privilege check passes and the address map has no register there. -/
theorem otherMsrsAreRefused : Obligations.OtherMsrsAreRefused := by
  intro s hcpl hecx
  have hp := privilegedOkMsr_of_cpl_zero hcpl
  have hr := msrAt_eq_none hecx
  exact ⟨exec_rdmsr_of_msrAt_none hp hr, exec_wrmsr_of_msrAt_none hp hr⟩

/-! #### What the register-access instructions leave unchanged -/

@[simp] theorem rax_writeMsr (k : Core) (r : MsrReg) (v : Quad) : (writeMsr k r v).rax = k.rax := by
  cases r <;> rfl

@[simp] theorem rcx_writeMsr (k : Core) (r : MsrReg) (v : Quad) : (writeMsr k r v).rcx = k.rcx := by
  cases r <;> rfl

@[simp] theorem rdx_writeMsr (k : Core) (r : MsrReg) (v : Quad) : (writeMsr k r v).rdx = k.rdx := by
  cases r <;> rfl

@[simp] theorem savedTrap_writeMsr (k : Core) (r : MsrReg) (v : Quad) : (writeMsr k r v).savedTrap = k.savedTrap := by
  cases r <;> rfl

/-- What an instruction leaves unchanged in one counter, where ECX is `a`: the detector, the pin, and each of the two
registers that is not at `a` (R111). -/
structure CounterKeptBut (a : Word) (j : CtrId) (n n' : Counter) : Prop where
  prev : n'.prev = n.prev
  pin : n'.pin = n.pin
  sel : a ≠ selAddress j → n'.sel = n.sel
  ctr : a ≠ ctrAddress j → n'.ctr = n.ctr

theorem CounterKeptBut.refl (a : Word) (j : CtrId) (n : Counter) : CounterKeptBut a j n n :=
  ⟨rfl, rfl, fun _ => rfl, fun _ => rfl⟩

theorem counterKeptBut_writeMsr {a : Word} {r : MsrReg} (h : msrAt a = some r) (k : Core) (v : Quad) (j : CtrId) :
    CounterKeptBut a j (k.counter j) ((writeMsr k r v).counter j) := by
  obtain hw | ⟨ha, hw⟩ | ⟨ha, hw⟩ := counter_writeMsr_cases h k v j <;> rw [hw]
  · exact .refl ..
  · exact ⟨rfl, rfl, fun hne => absurd ha hne, fun _ => rfl⟩
  · exact ⟨rfl, rfl, fun _ => rfl, fun hne => absurd ha hne⟩

/-- What instruction `i` leaves unchanged in the core that runs it, `k` before and `k'` after (R55, R107, R111). -/
structure RegisterFrame (i : Instr) (k k' : Core) : Prop where
  rcx : k'.rcx = k.rcx
  savedTrap : k'.savedTrap = k.savedTrap
  read : i ≠ .wrmsr → k'.counters = k.counters ∧ k'.clockOwed = k.clockOwed
  write : i = .wrmsr → k'.rax = k.rax ∧ k'.rdx = k.rdx ∧ ∀ j, CounterKeptBut k.ecx j (k.counter j) (k'.counter j)

theorem registerFrame_raise (i : Instr) (k : Core) (e : Option Trap) : RegisterFrame i k { k with pendingTrap := e } where
  rcx := rfl
  savedTrap := rfl
  read _ := ⟨rfl, rfl⟩
  write _ := ⟨rfl, rfl, fun _ => .refl ..⟩

theorem registerFrame_write {k : Core} {r : MsrReg} (h : msrAt k.ecx = some r) (v : Quad) :
    RegisterFrame .wrmsr k { (writeMsr k r v).pastInstr with clockOwed := true } where
  rcx := rcx_writeMsr ..
  savedTrap := savedTrap_writeMsr ..
  read hi := absurd rfl hi
  write _ := ⟨rax_writeMsr .., rdx_writeMsr .., counterKeptBut_writeMsr h k v⟩

theorem registerFrame_read {i : Instr} (hi : i ≠ .wrmsr) (k : Core) (longMode : Bool) (v : Quad) :
    RegisterFrame i k (k.writePair longMode v).pastInstr where
  rcx := rfl
  savedTrap := rfl
  read _ := ⟨rfl, rfl⟩
  write h := absurd h hi

/-- R55, R57: a register-access instruction replaces the core that moves, by one that differs where R305, R103 or R107
says, and nothing else of the state. -/
theorem exec_register_eq_setCur {i : Instr} {s t : State} (hi : i ∈ [Instr.wrmsr, .rdmsr, .rdpmc])
    (h : exec i s = .next t) : ∃ k, t = s.setCur k ∧ RegisterFrame i s.cur k := by
  simp only [List.mem_cons, List.not_mem_nil, or_false] at hi
  obtain rfl | rfl | rfl := hi
  · obtain rfl | ⟨_, r, hr, rfl⟩ := execWrmsr_cases h
    · exact ⟨_, rfl, registerFrame_raise ..⟩
    · exact ⟨_, rfl, registerFrame_write hr _⟩
  · obtain rfl | ⟨_, r, _, rfl⟩ := execRdmsr_cases h
    · exact ⟨_, rfl, registerFrame_raise ..⟩
    · exact ⟨_, rfl, registerFrame_read (by nofun) ..⟩
  · obtain rfl | ⟨j, _, rfl⟩ := execRdpmc_cases h
    · exact ⟨_, rfl, registerFrame_raise ..⟩
    · exact ⟨_, rfl, registerFrame_read (by nofun) ..⟩

/-- Settles O20: the rest of the state is kept by replacing one core, the parts of that core by its frame. -/
theorem registerInstructionFrames : Obligations.RegisterInstructionFrames := by
  intro s t i hi h
  obtain ⟨k, rfl, hrcx, hsaved, hread, hwrite⟩ := exec_register_eq_setCur hi h
  rw [State.cur_setCur]
  refine ⟨State.core_setCore_other .., fun a => by rw [State.mem_setCur], hrcx, hsaved, State.env_setCur ..,
    State.ctr_setCur .., State.tick_setCur .., State.outputs_setCur .., State.events_setCur .., hread, fun hw => ?_⟩
  obtain ⟨hrax, hrdx, hcounters⟩ := hwrite hw
  refine ⟨hrax, hrdx, fun j => ?_⟩
  obtain ⟨hprev, hpin, hsel, hctr⟩ := hcounters j
  exact ⟨hprev, hpin, hsel, hctr⟩

/-! #### No meaning reads or writes memory -/

section WithMem

variable (s : State) (m : List Host.Cell)

theorem setCore_withMem (c : CoreId) (k : Core) :
    ({ s with mem := m } : State).setCore c k = { s.setCore c k with mem := m } := by
  cases c <;> rfl

theorem setCur_withMem (k : Core) : ({ s with mem := m } : State).setCur k = { s.setCur k with mem := m } :=
  setCore_withMem ..

theorem cur_withMem : ({ s with mem := m } : State).cur = s.cur :=
  rfl

theorem lines_withMem : ({ s with mem := m } : State).lines = s.lines :=
  rfl

theorem raiseGP_withMem : raiseGP { s with mem := m } = { raiseGP s with mem := m } :=
  setCur_withMem ..

theorem completeWrmsr_withMem (r : MsrReg) : completeWrmsr r { s with mem := m } = { completeWrmsr r s with mem := m } :=
  setCur_withMem ..

theorem eventAmount_withMem (e : Event) (q : Qualifiers) : eventAmount e q { s with mem := m } = eventAmount e q s :=
  rfl

theorem applyAmount_withMem (a : Nat) (q : Qualifiers) :
    applyAmount a q { s with mem := m } = { applyAmount a q s with mem := m } := by
  unfold applyAmount
  dsimp only
  rw [setCur_withMem]
  rfl

theorem countEvent_withMem (e : Event) (q : Qualifiers) :
    countEvent e q { s with mem := m } = { countEvent e q s with mem := m } := by
  unfold countEvent
  rw [lines_withMem]
  split
  · rfl
  · rw [eventAmount_withMem, applyAmount_withMem]

/-- An outcome with the memory of its next state, where it has one, replaced. -/
def outcomeWithMem : Host.Outcome State Fault Refusal → Host.Outcome State Fault Refusal
  | .next t => .next { t with mem := m }
  | .fault r => .fault r
  | .refused r => .refused r

theorem reservedWrite_withMem (r : MsrReg) :
    reservedWrite r { s with mem := m } = outcomeWithMem m (reservedWrite r s) := by
  unfold reservedWrite
  split
  · rfl
  · rw [completeWrmsr_withMem]
    rfl
  · rw [raiseGP_withMem]
    rfl

theorem execWrmsr_withMem : execWrmsr { s with mem := m } = outcomeWithMem m (execWrmsr s) := by
  unfold execWrmsr
  rw [lines_withMem, cur_withMem, raiseGP_withMem]
  split
  · split
    · rfl
    · split
      · rw [completeWrmsr_withMem]
        rfl
      · exact reservedWrite_withMem ..
  · rfl

theorem execRdmsr_withMem : execRdmsr { s with mem := m } = outcomeWithMem m (execRdmsr s) := by
  unfold execRdmsr
  rw [lines_withMem, cur_withMem, raiseGP_withMem]
  split
  · split
    · rfl
    · rw [setCur_withMem]
      rfl
  · rfl

theorem execRdpmc_withMem : execRdpmc { s with mem := m } = outcomeWithMem m (execRdpmc s) := by
  unfold execRdpmc
  rw [lines_withMem, cur_withMem, raiseGP_withMem]
  split
  · split
    · rfl
    · rw [setCur_withMem]
      rfl
  · rfl

/-- R55: an instruction on other memory answers the same, with that memory. -/
theorem exec_withMem (i : Instr) : exec i { s with mem := m } = outcomeWithMem m (exec i s) := by
  obtain rfl | rfl | rfl | ⟨e, q, he, hq⟩ := register_or_event i
  · exact execWrmsr_withMem s m
  · exact execRdmsr_withMem s m
  · exact execRdpmc_withMem s m
  · rw [exec_event he hq, exec_event he hq, countEvent_withMem]
    rfl

end WithMem

/-- `exec_withMem` at the memory that the state already has. -/
theorem exec_keeps_mem {i : Instr} {s t : State} (h : exec i s = .next t) : t.mem = s.mem := by
  have hsame : exec i s = outcomeWithMem s.mem (exec i s) := exec_withMem s s.mem i
  rw [h, outcomeWithMem] at hsame
  have hmem := congrArg State.mem (Host.Outcome.next.inj hsame)
  exact hmem

@[simp] theorem mem_enterTrap (e : Trap) (s : State) : (enterTrap e s).mem = s.mem :=
  State.mem_setCur ..

@[simp] theorem mem_takeInterrupt (s : State) : (takeInterrupt s).mem = s.mem := by
  unfold takeInterrupt
  split
  · exact State.mem_setCur ..
  · rfl

@[simp] theorem mem_countReserved (q : Qualifiers) (s : State) : (countReserved q s).mem = s.mem := by
  unfold countReserved
  split
  · rfl
  · exact State.mem_setCur ..

theorem step_keeps_mem {s t : State} (h : step s = .next t) : t.mem = s.mem := by
  obtain ⟨_, hinstr⟩ | ⟨_, hcount⟩ | ⟨_, rfl⟩ := step_cases h
  · obtain ⟨_, rfl⟩ | ⟨e, _, rfl⟩ | ⟨i, _, ⟨_, rfl⟩ | ⟨u, hu, rfl⟩⟩ := hinstr
    · exact mem_advance s
    · rw [mem_advance, mem_enterTrap]
    · exact mem_advance s
    · rw [mem_advance, exec_keeps_mem hu]
  · obtain ⟨i, u, _, hu, rfl⟩ | ⟨e, _, rfl⟩ := hcount
    · rw [mem_advance, exec_keeps_mem hu]
    · rw [mem_advance, mem_countReserved]
  · rw [mem_advance, mem_takeInterrupt]

/-- Settles O41: a step keeps the whole list of bytes, and `exec_withMem` is the second half. -/
theorem noStepChangesMemory : Obligations.NoStepChangesMemory := by
  refine ⟨fun s t a h => by rw [step_keeps_mem h], fun i s m => ?_⟩
  rw [exec_withMem]
  cases exec i s <;> rfl

end Sys2Proof.Machine

/-! ### The encoding and the fetch (`30_encoding.md`)

The event map (R77) and assembly (R72) are each other's inverse, code by code and field by field; the reserved bits are
all that decoding forgets (R71, R73). A step of the instruction agent is then a function of what it fetches (R75, R76). -/

namespace Sys2Proof

/-! #### Control words -/

theorem decodeControl_eq_ok_iff {v : Quad} {i : Instr} :
    decodeControl v = .ok i ↔ instrOfCode (eventCode v) (qualifiersOf v) = some i := by
  unfold decodeControl
  cases instrOfCode (eventCode v) (qualifiersOf v) <;> simp

/-- R72, R73: decoding looks a word's own code up with the word's own fields. -/
theorem decodeControl_assemble {code : BitVec 8} {q : Qualifiers} {i : Instr} (h : instrOfCode code q = some i) :
    decodeControl (assemble code q) = .ok i := by
  rw [decodeControl_eq_ok_iff, eventCode_assemble, qualifiersOf_assemble, h]

/-- R77: the encoder puts back the code under which the event map finds the instruction. -/
theorem encode_of_instrOfCode {code : BitVec 8} {q : Qualifiers} {i : Instr} (h : instrOfCode code q = some i) :
    encode i = .control (assemble code q) := by
  have hcode : code = BitVec.ofNat 8 code.toNat := by simp
  unfold instrOfCode at h
  split at h
  case h_88 => cases h
  all_goals
    next hn =>
      cases h
      rw [hcode, hn]
      rfl

/-- R71, R81: the described bits of a control word are bits 31-0 without bit 21. -/
theorem getLsbD_selMask (i : Nat) : Machine.selMask.getLsbD i = decide (i < 32 ∧ i ≠ 21) := by
  by_cases hi : i < 64
  · interval_cases i <;> rfl
  · rw [BitVec.getLsbD_of_ge _ _ (by omega), decide_eq_false (by omega)]

/-- A field of a word put back at its place gives the word's bits there and zero elsewhere. -/
theorem getLsbD_field_shiftLeft (v : Quad) (lo n : Nat) {i : Nat} (hi : i < 64) :
    ((v.extractLsb' lo n).setWidth 64 <<< lo).getLsbD i = (decide (lo ≤ i ∧ i < lo + n) && v.getLsbD i) := by
  simp only [BitVec.getLsbD_shiftLeft, BitVec.getLsbD_setWidth, BitVec.getLsbD_extractLsb']
  by_cases hlo : lo ≤ i
  · rw [Nat.add_sub_cancel' hlo]
    simp [hi, hlo, Nat.not_lt.mpr hlo, Nat.sub_lt_iff_lt_add' hlo, Nat.lt_add_left lo hi]
  · simp [hlo, Nat.lt_of_not_le hlo]

theorem ofBool_getLsbD (v : Quad) (lo : Nat) : BitVec.ofBool (v.getLsbD lo) = v.extractLsb' lo 1 := by
  apply BitVec.eq_of_getLsbD_eq
  intro i hi
  obtain rfl : i = 0 := by omega
  simp

/-- R72, R73: taking a control word apart and assembling it again drops its reserved bits and nothing else, since the places
of the fields together are the described bits. -/
theorem assemble_eventCode_qualifiersOf (v : Quad) :
    assemble (eventCode v) (qualifiersOf v) = v &&& Machine.selMask := by
  apply BitVec.eq_of_getLsbD_eq
  intro i hi
  have hcode : ((eventCode v).setWidth 64).getLsbD i = (decide (i < 8) && v.getLsbD i) := by
    simpa [eventCode] using getLsbD_field_shiftLeft v 0 8 hi
  simp only [assemble, qualifiersOf, ofBool_getLsbD, BitVec.getLsbD_or, hcode, getLsbD_field_shiftLeft v _ _ hi,
    BitVec.getLsbD_and, getLsbD_selMask]
  cases v.getLsbD i
  · simp
  · simp only [Bool.and_true, Bool.true_and, ← Bool.decide_or]
    exact decide_eq_decide.mpr (by omega)

/-- Settles O2: each event's code leads the event map back to the event, with every field as it was; the two bytes of the
others are R75's. -/
theorem decodeUndoesEncode : Obligations.DecodeUndoesEncode := by
  intro i
  cases i with
  | wrmsr => rfl
  | rdmsr => rfl
  | rdpmc => rfl
  | _ q => exact decodeControl_assemble rfl

/-! #### Bytes of the instruction stream -/

theorem decodeBytes_first_of_ne {b : Byte} (h : b ≠ 0x0F) (rest : List Byte) :
    decodeBytes (b :: rest) = .error .otherOpcode :=
  if_neg h

theorem decodeBytes_second_of_ne {c : Byte} (rest : List Byte) (h30 : c ≠ 0x30) (h32 : c ≠ 0x32) (h33 : c ≠ 0x33) :
    decodeBytes (0x0F :: c :: rest) = .error .otherOpcode := by
  rw [decodeBytes, if_pos rfl]
  simp only [if_neg h30, if_neg h32, if_neg h33]

/-- R75, R76: two bytes that decode are the two bytes of their instruction. -/
theorem encode_of_decodeBytes {b c : Byte} {i : Instr} (h : decodeBytes [b, c] = .ok i) : encode i = .bytes [b, c] := by
  obtain rfl : b = 0x0F := by
    by_contra hb
    rw [decodeBytes_first_of_ne hb] at h
    cases h
  by_cases h30 : c = 0x30
  · subst h30; cases h; rfl
  by_cases h32 : c = 0x32
  · subst h32; cases h; rfl
  by_cases h33 : c = 0x33
  · subst h33; cases h; rfl
  rw [decodeBytes_second_of_ne [] h30 h32 h33] at h
  cases h

/-- Settles O3: the encoder puts back the code and the fields the word was taken apart into, and the reserved bits are the
ones these leave out. -/
theorem encodeUndoesDecode : Obligations.EncodeUndoesDecode := by
  refine ⟨fun v i h => ?_, fun b c i h => encode_of_decodeBytes h⟩
  calc encode i = .control (assemble (eventCode v) (qualifiersOf v)) :=
        encode_of_instrOfCode (decodeControl_eq_ok_iff.mp h)
    _ = .control (v &&& Machine.selMask) := by rw [assemble_eventCode_qualifiersOf]

/-- Settles O1: the words are R75's byte pairs and the examples of the event rules, so decoding them is a computation. -/
theorem decodeReadsTheSpecsWords : Obligations.DecodeReadsTheSpecsWords := by
  unfold Obligations.DecodeReadsTheSpecsWords
  decide

end Sys2Proof

namespace Sys2Proof.Machine

/-! #### A step of the counting agent on a reserved code -/

theorem countReserved_unhalted {s : State} (q : Qualifiers) (h : s.lines.halted = false) :
    countReserved q s = afterCounting s q (Config.draw s.tick).toNat := by
  simp [countReserved, h, applyAmount_eq]

theorem step_of_selected_error {s : State} {e : DecodeError} (ha : s.env.agent = .count) (hs : selected s = .error e) :
    step s = .next (advance (countReserved (qualifiersOf (s.cur.counter s.ctr).sel) s)) := by
  simp [step, ha, countingAgent, hs]

/-- Settles O6: a reserved code leaves the counting agent to R135 on a draw. -/
theorem reservedCodesCountADraw : Obligations.ReservedCodesCountADraw := by
  intro s ha hh hs
  rw [step_of_selected_error ha hs, countReserved_unhalted _ hh]

/-! #### A step of the instruction agent, by what it fetches -/

/-- The bytes at a program counter where there is one: it and the next, where there is a next. -/
theorem bytesAt_of_some {m : List Host.Cell} {pc : Quad} {b : Byte} (hb : memRead m pc.toNat = some b) :
    bytesAt m pc = b :: (memRead m (pc + 1).toNat).toList := by
  unfold bytesAt
  rw [hb]
  cases memRead m (pc + 1).toNat <;> rfl

theorem bytesAt_of_none {m : List Host.Cell} {pc : Quad} (h : memRead m pc.toNat = none) : bytesAt m pc = [] := by
  simp [bytesAt, h]

theorem advance_of_agent_instr {s : State} (h : s.env.agent = .instr) : advance s = boundary s := by
  simp [advance, h]

theorem waitsForClock_eq_false {i : Instr} {k : Core} (h : ¬(i = .wrmsr ∧ k.clockOwed = true)) :
    waitsForClock i k = false := by
  rw [waitsForClock, Bool.and_eq_false_iff]
  by_cases hi : i = .wrmsr
  · exact .inl (Bool.eq_false_of_not_eq_true fun ho => h ⟨hi, ho⟩)
  · exact .inr (beq_false_of_ne hi)

/-- What the instruction stream holds only replaces the core that moves, so the agent that moved is still named (R55). -/
theorem exec_fetched_env {bs : List Byte} {i : Instr} {s t : State} (hi : decodeBytes bs = .ok i)
    (h : exec i s = .next t) : t.env = s.env := by
  obtain ⟨k, rfl, _⟩ := exec_register_eq_setCur (by simpa using decodeBytes_eq_ok hi) h
  exact State.env_setCur ..

section Fetch

variable {s : State} (ha : s.env.agent = .instr) (hh : s.lines.halted = false) (hp : s.cur.pendingTrap = none)
include ha hh hp

theorem step_of_fetched_ok {i : Instr} (hf : fetched s = .ok i) (hw : waitsForClock i s.cur = false) :
    step s = advanceOutcome (exec i s) := by
  simp [step, ha, instructionAgent, hh, hp, hf, hw]

theorem step_of_fetched_truncated (hf : fetched s = .error .truncated) : step s = .fault .fetchAbsent := by
  simp [step, ha, instructionAgent, hh, hp, hf]

theorem step_of_fetched_otherOpcode (hf : fetched s = .error .otherOpcode) :
    step s = .refused .instructionOutsideSpec := by
  simp [step, ha, instructionAgent, hh, hp, hf]

end Fetch

/-- Settles O4: the two bytes are the ones fetched, no wait holds the instruction back, and the environment then presents
its next inputs since the agent that moved is still the instruction agent. -/
theorem stepRunsTheFetchedInstruction : Obligations.StepRunsTheFetchedInstruction := by
  intro s i b c ha hh hp hb hc hi hwait
  have hf : fetched s = .ok i := by rw [fetched, bytesAt_of_some hb, hc, Option.toList_some, hi]
  rw [step_of_fetched_ok ha hh hp hf (waitsForClock_eq_false hwait)]
  cases hexec : exec i s with
  | next t =>
    have ht : t.env.agent = .instr := by rw [exec_fetched_env hi hexec, ha]
    exact congrArg Host.Outcome.next (advance_of_agent_instr ht)
  | fault r => rfl
  | refused r => rfl

/-- Settles O52: the four cases are the ways in which the fetch gives no instruction. -/
theorem otherInstructionsAreRefused : Obligations.OtherInstructionsAreRefused := by
  intro s ha hh hp
  refine ⟨fun b hb hne => ?_, fun c hb hc h30 h32 h33 => ?_, fun hb => ?_, fun hb hc => ?_⟩
  · refine step_of_fetched_otherOpcode ha hh hp ?_
    rw [fetched, bytesAt_of_some hb, decodeBytes_first_of_ne hne]
  · refine step_of_fetched_otherOpcode ha hh hp ?_
    rw [fetched, bytesAt_of_some hb, hc, Option.toList_some, decodeBytes_second_of_ne [] h30 h32 h33]
  · refine step_of_fetched_truncated ha hh hp ?_
    rw [fetched, bytesAt_of_none hb]
    rfl
  · refine step_of_fetched_truncated ha hh hp ?_
    rw [fetched, bytesAt_of_some hb, hc]
    rfl

end Sys2Proof.Machine

/-! ### Register access (`40_register_access.md`)

Each of the three instructions answers by its privilege check, then by the register or the counter that ECX names, then
(WRMSR) by the reserved bits: one equation for each case. What such an equation reads or writes is then cut into the halves
that EDX and EAX hold, and the statements are read off. -/

namespace Sys2Proof.Machine

/-! #### Halves of a 64-bit value -/

theorem append_extractLsb'_self {m n : Nat} (x : BitVec (m + n)) : x.extractLsb' n m ++ x.extractLsb' 0 n = x :=
  (BitVec.extractLsb'_append_extractLsb'_eq_extractLsb' (Nat.zero_add n).symm).trans BitVec.extractLsb'_eq_self

theorem writeLow32_eq_halfWritten (longMode : Bool) (old : Quad) (v : Word) :
    writeLow32 longMode old v = halfWritten longMode old v := by
  cases longMode <;> rfl

/-- R107: a read answers in EDX:EAX, a half in each. -/
theorem writePair_append (k : Core) (longMode : Bool) (hi lo : Word) :
    k.writePair longMode (hi ++ lo) =
      { k with rax := halfWritten longMode k.rax lo, rdx := halfWritten longMode k.rdx hi } := by
  have hlo : low32 (hi ++ lo) = lo := BitVec.extractLsb'_append_eq_right
  have hhi : high32 (hi ++ lo) = hi := BitVec.extractLsb'_append_eq_left
  rw [Core.writePair, hlo, hhi, writeLow32_eq_halfWritten, writeLow32_eq_halfWritten]

/-- EDX:EAX cut at the width of a counter (R21, R23). -/
theorem pair_eq_append_count (k : Core) :
    k.pair = k.edx.extractLsb' 16 16 ++ (k.edx.extractLsb' 0 16 ++ k.eax : Count) := by
  have hedx : k.edx.extractLsb' 16 16 ++ k.edx.extractLsb' 0 16 = k.edx := append_extractLsb'_self (m := 16) (n := 16) _
  calc k.pair = (k.edx.extractLsb' 16 16 ++ k.edx.extractLsb' 0 16) ++ k.eax := by rw [hedx, Core.pair]
    _ = k.edx.extractLsb' 16 16 ++ (k.edx.extractLsb' 0 16 ++ k.eax : Count) := BitVec.append_assoc

theorem setWidth_pair (k : Core) : k.pair.setWidth 48 = k.edx.extractLsb' 0 16 ++ k.eax := by
  rw [pair_eq_append_count]
  exact BitVec.setWidth_append_eq_right (w' := 48)

/-- R23: CTR under 16 zero bits. -/
theorem readCounter_eq_append (k : Core) (i : CtrId) : readCounter k i = 0#16 ++ (k.counter i).ctr :=
  BitVec.setWidth_eq_append (w := 64) (by decide)

/-- R53: what a read of a counter puts into EDX and EAX. -/
theorem readCounter_eq_halves (k : Core) (i : CtrId) : readCounter k i =
    (0#16 ++ (k.counter i).ctr.extractLsb' 32 16 : Word) ++ (k.counter i).ctr.extractLsb' 0 32 := by
  generalize hc : (k.counter i).ctr = c
  have hctr : c.extractLsb' 32 16 ++ c.extractLsb' 0 32 = c := append_extractLsb'_self (m := 16) (n := 32) _
  calc readCounter k i = 0#16 ++ (c.extractLsb' 32 16 ++ c.extractLsb' 0 32) := by
        rw [readCounter_eq_append, hc, hctr]
    _ = (0#16 ++ c.extractLsb' 32 16 : Word) ++ c.extractLsb' 0 32 := BitVec.append_assoc.symm

/-! #### Reserved bits (R71, R81) -/

/-- The described bits of a PerfEvtSel register stand in its low half. -/
theorem and_selMask (v : Quad) : v &&& selMask = 0#32 ++ (v.extractLsb' 0 32 &&& 0xFFDFFFFF) := by
  have hmask : selMask = 0#32 ++ 0xFFDFFFFF#32 := rfl
  have hv : v.extractLsb' 32 32 ++ v.extractLsb' 0 32 = v := append_extractLsb'_self (m := 32) (n := 32) _
  calc v &&& selMask = (v.extractLsb' 32 32 ++ v.extractLsb' 0 32) &&& (0#32 ++ 0xFFDFFFFF#32) := by rw [hv, hmask]
    _ = 0#32 ++ (v.extractLsb' 0 32 &&& 0xFFDFFFFF) := by rw [BitVec.and_append, BitVec.and_zero]; rfl

theorem and_selMask_and_reserved (v : Quad) : v &&& selMask &&& 0xFFFFFFFF00200000 = 0 := by
  have hdisjoint : selMask &&& 0xFFFFFFFF00200000 = 0 := rfl
  rw [BitVec.and_assoc, hdisjoint]
  exact BitVec.and_zero

/-- A word without bit 21 is its own described part. -/
theorem and_describedBits_of_bit21 {w : Word} (h : w.getLsbD 21 = false) : w &&& 0xFFDFFFFF = w := by
  have hmask : (0xFFDFFFFF : Word) = ~~~(BitVec.twoPow 32 21) := rfl
  apply BitVec.eq_of_getLsbD_eq
  intro i hi
  rw [hmask, BitVec.getLsbD_and, BitVec.getLsbD_not, BitVec.getLsbD_twoPow]
  by_cases h21 : i = 21
  · rw [h21, h]
    rfl
  · simp [hi, Ne.symm h21]

/-- The reserved bits of a PerfEvtSel register are all of EDX and bit 21 of EAX. -/
theorem pair_and_selReserved {k : Core} (hd : k.edx = 0) (ha : k.eax.getLsbD 21 = false) :
    k.pair &&& 0xFFFFFFFF00200000 = 0 := by
  have hmask : (0xFFFFFFFF00200000 : Quad) = BitVec.allOnes 32 ++ BitVec.twoPow 32 21 := rfl
  rw [Core.pair, hmask, BitVec.and_append, hd, BitVec.and_twoPow, ha]
  rfl

theorem pair_and_selMask {k : Core} (ha : k.eax.getLsbD 21 = false) :
    k.pair &&& selMask = 0#32 ++ k.eax := by
  have hlow : k.pair.extractLsb' 0 32 = k.eax := BitVec.extractLsb'_append_eq_right
  rw [and_selMask, hlow, and_describedBits_of_bit21 ha]

/-- The reserved bits of a counter's 64 are the 16 above CTR. -/
theorem append_and_ctrReserved (hi : BitVec 16) (c : Count) :
    (hi ++ c : Quad) &&& 0xFFFF000000000000 = hi ++ 0#48 := by
  have hmask : (0xFFFF000000000000 : Quad) = BitVec.allOnes 16 ++ 0#48 := rfl
  rw [hmask, BitVec.and_append, BitVec.and_allOnes, BitVec.and_zero]

theorem pair_and_ctrReserved {k : Core} (hd : k.edx.extractLsb' 16 16 = 0) : k.pair &&& 0xFFFF000000000000 = 0 := by
  rw [pair_eq_append_count, append_and_ctrReserved, hd]
  rfl

theorem readCounter_and_ctrReserved (k : Core) (i : CtrId) : readCounter k i &&& 0xFFFF000000000000 = 0 := by
  rw [readCounter_eq_append, append_and_ctrReserved]
  rfl

/-! #### What each instruction answers -/

/-- R305: the machine's exception is the rules'. -/
theorem raiseGP_eq_withGP (s : State) : raiseGP s = withGP s :=
  rfl

section Answers

variable {s : State}

theorem exec_wrmsr_of_reserved_zero {r : MsrReg} (hcpl : s.lines.cpl = 0) (hr : msrAt s.cur.ecx = some r)
    (hz : s.cur.pair &&& r.reserved = 0) : exec .wrmsr s = .next (completeWrmsr r s) := by
  change execWrmsr s = _
  unfold execWrmsr
  rw [if_pos (privilegedOkMsr_of_cpl_zero hcpl), hr]
  exact if_pos hz

theorem exec_wrmsr_of_reserved_ne_zero {r : MsrReg} (hcpl : s.lines.cpl = 0) (hr : msrAt s.cur.ecx = some r)
    (hz : s.cur.pair &&& r.reserved ≠ 0) : exec .wrmsr s = reservedWrite r s := by
  change execWrmsr s = _
  unfold execWrmsr
  rw [if_pos (privilegedOkMsr_of_cpl_zero hcpl), hr]
  exact if_neg hz

theorem exec_rdmsr_of_msrAt {r : MsrReg} (hcpl : s.lines.cpl = 0) (hr : msrAt s.cur.ecx = some r) :
    exec .rdmsr s = .next (s.setCur (s.cur.writePair s.lines.longMode (readMsr s.cur r)).pastInstr) := by
  change execRdmsr s = _
  unfold execRdmsr
  rw [if_pos (privilegedOkMsr_of_cpl_zero hcpl), hr]

theorem exec_rdpmc_of_pmcAt {i : CtrId} (hp : s.lines.cpl = 0 ∨ s.lines.rdpmcUserAllowed = true)
    (hi : pmcAt s.cur.ecx = some i) :
    exec .rdpmc s = .next (s.setCur (s.cur.writePair s.lines.longMode (readCounter s.cur i)).pastInstr) := by
  have hok : privilegedOkRdpmc s.lines = true := by simpa [privilegedOkRdpmc] using hp
  change execRdpmc s = _
  unfold execRdpmc
  rw [if_pos hok, hi]

theorem exec_rdmsr_of_unprivileged (hcpl : s.lines.cpl ≠ 0) : exec .rdmsr s = .next (withGP s) :=
  if_neg (by simpa [privilegedOkMsr] using hcpl)

theorem exec_wrmsr_of_unprivileged (hcpl : s.lines.cpl ≠ 0) : exec .wrmsr s = .next (withGP s) :=
  if_neg (by simpa [privilegedOkMsr] using hcpl)

theorem exec_rdpmc_of_unprivileged (hcpl : s.lines.cpl ≠ 0) (huser : s.lines.rdpmcUserAllowed = false) :
    exec .rdpmc s = .next (withGP s) :=
  if_neg (by simpa [privilegedOkRdpmc, huser] using hcpl)

/-- An index without a counter raises what a missing privilege raises. -/
theorem exec_rdpmc_of_pmcAt_none (hi : pmcAt s.cur.ecx = none) : exec .rdpmc s = .next (withGP s) := by
  change execRdpmc s = _
  unfold execRdpmc
  rw [hi, raiseGP_eq_withGP, ite_self]

end Answers

/-- R108: all 32 bits are compared. -/
theorem pmcAt_eq_none {n : Word} (h : n.toNat > 3) : pmcAt n = none := by
  unfold pmcAt
  split
  case h_5 => rfl
  all_goals omega

/-! #### Writes -/

theorem completeWrmsr_evtSel (i : CtrId) (s : State) : completeWrmsr (.evtSel i) s = s.setCur { s.cur with
    counters := s.cur.counters.set i { s.cur.counter i with sel := s.cur.pair &&& selMask }
    pc := s.cur.pc + 2
    clockOwed := true } :=
  rfl

theorem completeWrmsr_ctr (i : CtrId) (s : State) : completeWrmsr (.ctr i) s = s.setCur { s.cur with
    counters := s.cur.counters.set i { s.cur.counter i with ctr := s.cur.edx.extractLsb' 0 16 ++ s.cur.eax }
    pc := s.cur.pc + 2
    clockOwed := true } := by
  rw [← setWidth_pair]
  rfl

/-- Settles O9: no reserved bit is written, and the described bits of EDX:EAX are EAX. -/
theorem wrmsrWritesAnEventSelectRegister : Obligations.WrmsrWritesAnEventSelectRegister := by
  intro s i hcpl hecx hedx heax
  have hr : msrAt s.cur.ecx = some (.evtSel i) := by rw [hecx, msrAt_selAddress]
  rw [exec_wrmsr_of_reserved_zero hcpl hr (pair_and_selReserved hedx heax), completeWrmsr_evtSel,
    pair_and_selMask heax]

/-- Settles O10: no reserved bit is written, and CTR takes the other 48. -/
theorem wrmsrWritesACounter : Obligations.WrmsrWritesACounter := by
  intro s i hcpl hecx hedx
  have hr : msrAt s.cur.ecx = some (.ctr i) := by rw [hecx, msrAt_ctrAddress]
  rw [exec_wrmsr_of_reserved_zero hcpl hr (pair_and_ctrReserved hedx), completeWrmsr_ctr]

/-- Settles O11: the write reaches `reservedWrite`, whose three answers are the three policies; a read masks or extends. -/
theorem reservedBitWritesFollowThePolicy : Obligations.ReservedBitWritesFollowThePolicy := by
  intro s i isSel hcpl hecx hne
  refine ⟨?_, fun k => ⟨and_selMask_and_reserved _, readCounter_and_ctrReserved k i⟩⟩
  cases isSel with
  | true =>
    have hr : msrAt s.cur.ecx = some (.evtSel i) := by rw [hecx, if_pos rfl, msrAt_selAddress]
    rw [exec_wrmsr_of_reserved_ne_zero hcpl hr hne, reservedWrite, completeWrmsr_evtSel]
    cases Config.reservedWritePolicy <;> rfl
  | false =>
    have hr : msrAt s.cur.ecx = some (.ctr i) := by rw [hecx, if_neg Bool.false_ne_true, msrAt_ctrAddress]
    rw [exec_wrmsr_of_reserved_ne_zero hcpl hr hne, reservedWrite, completeWrmsr_ctr]
    cases Config.reservedWritePolicy <;> rfl

/-! #### Reads -/

/-- Settles O12: a PerfEvtSel register is read under its described bits, which EAX takes. -/
theorem rdmsrReadsAnEventSelectRegister : Obligations.RdmsrReadsAnEventSelectRegister := by
  intro s i hcpl hecx
  have hr : msrAt s.cur.ecx = some (.evtSel i) := by rw [hecx, msrAt_selAddress]
  rw [exec_rdmsr_of_msrAt hcpl hr, readMsr, and_selMask, writePair_append]
  rfl

/-- Settles O13: a counter is read as its two halves. -/
theorem rdmsrReadsACounter : Obligations.RdmsrReadsACounter := by
  intro s i hcpl hecx
  have hr : msrAt s.cur.ecx = some (.ctr i) := by rw [hecx, msrAt_ctrAddress]
  rw [exec_rdmsr_of_msrAt hcpl hr, readMsr, readCounter_eq_halves, writePair_append]
  rfl

/-- Settles O14: the same two halves, under the other privilege check and the other name of the counter. -/
theorem rdpmcReadsACounter : Obligations.RdpmcReadsACounter := by
  intro s i hp hecx
  have hi : pmcAt s.cur.ecx = some i := by rw [hecx, pmcAt_pmcIndex]
  rw [exec_rdpmc_of_pmcAt hp hi, readCounter_eq_halves, writePair_append]
  rfl

/-- Settles O15: both instructions write `readCounter` of the counter, which does not depend on RCX. -/
theorem rdpmcAndRdmsrReadTheSameValue : Obligations.RdpmcAndRdmsrReadTheSameValue := by
  intro s s' i hs' hcpl hecx hecx'
  have hlines : s'.lines = s.lines := by rw [hs', State.lines_setCur]
  have hcur : s'.cur = { s.cur with rcx := s'.cur.rcx } := by
    conv_lhs => rw [hs', State.cur_setCur]
  have hi : pmcAt s.cur.ecx = some i := by rw [hecx, pmcAt_pmcIndex]
  have hr : msrAt s'.cur.ecx = some (.ctr i) := by rw [hecx', msrAt_ctrAddress]
  refine ⟨_, _, exec_rdpmc_of_pmcAt (.inl hcpl) hi, exec_rdmsr_of_msrAt (hlines ▸ hcpl) hr, ?_⟩
  rw [State.cur_setCur, State.cur_setCur, hlines, hcur]
  exact ⟨rfl, rfl, rfl, rfl⟩

/-! #### Exceptions and completion -/

/-- Settles O16: each instruction checks the privilege before it looks at any operand. -/
theorem missingPrivilegeRaisesGP : Obligations.MissingPrivilegeRaisesGP := fun _ hcpl =>
  ⟨exec_rdmsr_of_unprivileged hcpl, exec_wrmsr_of_unprivileged hcpl, exec_rdpmc_of_unprivileged hcpl⟩

/-- Settles O17: an index above 3 names no counter. -/
theorem rdpmcOfNoCounterRaisesGP : Obligations.RdpmcOfNoCounterRaisesGP := fun _ hecx =>
  exec_rdpmc_of_pmcAt_none (pmcAt_eq_none hecx)

@[simp] theorem pc_writeMsr (k : Core) (r : MsrReg) (v : Quad) : (writeMsr k r v).pc = k.pc := by
  cases r <;> rfl

@[simp] theorem pendingTrap_writeMsr (k : Core) (r : MsrReg) (v : Quad) :
    (writeMsr k r v).pendingTrap = k.pendingTrap := by
  cases r <;> rfl

theorem pc_and_pendingTrap_completeWrmsr (r : MsrReg) (s : State) :
    (completeWrmsr r s).cur.pc = s.cur.pc + 2 ∧ (completeWrmsr r s).cur.pendingTrap = s.cur.pendingTrap := by
  rw [completeWrmsr, State.cur_setCur]
  exact ⟨congrArg (· + 2) (pc_writeMsr ..), pendingTrap_writeMsr ..⟩

theorem pc_and_pendingTrap_read (s : State) (v : Quad) :
    (s.setCur (s.cur.writePair s.lines.longMode v).pastInstr).cur.pc = s.cur.pc + 2 ∧
      (s.setCur (s.cur.writePair s.lines.longMode v).pastInstr).cur.pendingTrap = s.cur.pendingTrap := by
  rw [State.cur_setCur]
  exact ⟨rfl, rfl⟩

/-- Settles O19: an instruction raises the exception or ends with `pastInstr`. -/
theorem registerInstructionsMovePcOrRaise : Obligations.RegisterInstructionsMovePcOrRaise := by
  intro s t i hi h
  simp only [List.mem_cons, List.not_mem_nil, or_false] at hi
  obtain rfl | rfl | rfl := hi
  · obtain rfl | ⟨_, r, _, rfl⟩ := execWrmsr_cases h
    · exact .inr (raiseGP_eq_withGP s)
    · exact .inl (pc_and_pendingTrap_completeWrmsr r s)
  · obtain rfl | ⟨_, r, _, rfl⟩ := execRdmsr_cases h
    · exact .inr (raiseGP_eq_withGP s)
    · exact .inl (pc_and_pendingTrap_read s _)
  · obtain rfl | ⟨j, _, rfl⟩ := execRdpmc_cases h
    · exact .inr (raiseGP_eq_withGP s)
    · exact .inl (pc_and_pendingTrap_read s _)

end Sys2Proof.Machine

/-! ### The invariant (`60_exceptions.md` R305, `40_register_access.md` R102)

Memory and the control words have their lemmas already. For the exceptions, the turn and the moving core, a step is cut in
two: the move of an agent, which can raise #GP(0) or take what was raised and names no other agent (`Moved`), and the
hand-over to the next one (`advance`). -/

namespace Sys2Proof.Machine

/-! #### The move of an agent -/

/-- What a move can do to the exceptions of one core, `k` before and `k'` after: raise #GP(0), or take the raised one. -/
structure TrapsFrom (k k' : Core) : Prop where
  pending : ∀ e, k'.pendingTrap = some e → k.pendingTrap = some e ∨ e = generalProtection k.pc
  saved : ∀ e, k'.savedTrap = some e → k.savedTrap = some e ∨ k.pendingTrap = some e

theorem TrapsFrom.of_eq {k k' : Core} (hp : k'.pendingTrap = k.pendingTrap) (hs : k'.savedTrap = k.savedTrap) :
    TrapsFrom k k' :=
  ⟨fun _ h => .inl (hp ▸ h), fun _ h => .inl (hs ▸ h)⟩

/-- What the move of an agent does to the part of the state that `advance` and the exceptions depend on. -/
structure Moved (s u : State) : Prop where
  env : u.env = s.env
  traps : ∀ c, TrapsFrom (s.core c) (u.core c)

theorem Moved.refl (s : State) : Moved s s :=
  ⟨rfl, fun _ => .of_eq rfl rfl⟩

theorem moved_setCur {s : State} {k : Core} (h : TrapsFrom s.cur k) : Moved s (s.setCur k) where
  env := State.env_setCur ..
  traps c := by
    rw [State.core_setCur]
    split
    · next hc =>
      subst hc
      exact h
    · exact .of_eq rfl rfl

theorem moved_enterTrap {s : State} {e : Trap} (h : s.cur.pendingTrap = some e) : Moved s (enterTrap e s) :=
  moved_setCur ⟨nofun, fun _ he => .inr (h.trans he)⟩

theorem moved_takeInterrupt (s : State) : Moved s (takeInterrupt s) := by
  unfold takeInterrupt
  split
  · exact moved_setCur (.of_eq rfl rfl)
  · exact .refl s

theorem moved_afterCounting (s : State) (q : Qualifiers) (a : Nat) : Moved s (afterCounting s q a) := by
  obtain ⟨henv, htraps⟩ := moved_setCur (s := s)
    (k := s.cur.setCounter s.ctr (specCounter q s.lines.cpl a (s.cur.counter s.ctr))) (.of_eq rfl rfl)
  exact ⟨henv, fun c => (State.core_withOutputs ..).symm ▸ htraps c⟩

/-- R112: an instruction that completes raises nothing, and one that does not raises #GP(0) and nothing else. -/
theorem moved_exec_register {i : Instr} {s u : State} (hi : i ∈ [Instr.wrmsr, .rdmsr, .rdpmc])
    (h : exec i s = .next u) : Moved s u := by
  obtain ⟨k, rfl, hframe⟩ := exec_register_eq_setCur hi h
  obtain ⟨_, hpending⟩ | hraise := registerInstructionsMovePcOrRaise s _ i hi h
  · rw [State.cur_setCur] at hpending
    exact moved_setCur (.of_eq hpending hframe.savedTrap)
  · rw [hraise]
    exact moved_setCur ⟨fun e he => .inr (Option.some.inj he).symm, fun _ he => .inl he⟩

/-- Every step is a move and a hand-over. -/
theorem step_eq_advance {s t : State} (h : step s = .next t) : ∃ u, t = advance u ∧ Moved s u := by
  obtain ⟨_, hinstr⟩ | ⟨hagent, _⟩ | ⟨_, rfl⟩ := step_cases h
  · obtain ⟨_, rfl⟩ | ⟨e, he, rfl⟩ | ⟨i, hi, ⟨_, rfl⟩ | ⟨u, hu, rfl⟩⟩ := hinstr
    · exact ⟨s, rfl, .refl s⟩
    · exact ⟨_, rfl, moved_enterTrap he⟩
    · exact ⟨s, rfl, .refl s⟩
    · exact ⟨u, rfl, moved_exec_register (by simpa using decodeBytes_eq_ok hi) hu⟩
  · obtain ⟨_, rfl⟩ | ⟨_, a, _, rfl⟩ := step_count_cases hagent h
    · exact ⟨s, rfl, .refl s⟩
    · exact ⟨_, rfl, moved_afterCounting ..⟩
  · exact ⟨_, rfl, moved_takeInterrupt s⟩

/-! #### The hand-over -/

/-- The next counter's part of the same clock has the same inputs; else the environment presents the next ones, with the
turn at counter 0 (D1). -/
theorem advance_cases (s : State) :
    (s.env.agent = .count ∧ (advance s).env = s.env) ∨
      ∃ n, (advance s).env = nextEnv n ∧ (advance s).ctr = .c0 := by
  unfold advance
  cases ha : s.env.agent with
  | instr => exact .inr ⟨_, rfl, rfl⟩
  | interrupt => exact .inr ⟨_, rfl, rfl⟩
  | count =>
    cases s.ctr with
    | c3 => exact .inr ⟨_, rfl, rfl⟩
    | _ => exact .inl ⟨rfl, rfl⟩

/-- Between clocks the turn is at counter 0. -/
theorem ctr_advance_of_agent_ne_count {s : State} (h : (advance s).env.agent ≠ .count) : (advance s).ctr = .c0 := by
  obtain ⟨ha, henv⟩ | ⟨_, _, hctr⟩ := advance_cases s
  · rw [henv] at h
    exact absurd ha h
  · exact hctr

theorem core_nextEnv {n : Nat} (h : Config.dualCore = false) : (nextEnv n).core = .core0 := by
  simp [nextEnv, h]

theorem core_env_advance {s : State} (hone : Config.dualCore = false) (hs : s.env.core = .core0) :
    (advance s).env.core = .core0 := by
  obtain ⟨_, henv⟩ | ⟨_, henv, _⟩ := advance_cases s
  · rw [henv, hs]
  · rw [henv, core_nextEnv hone]

/-! #### Every step keeps the invariant -/

/-- A step leaves a PerfEvtSel as it was or writes its described bits (R102, R103, D2). -/
theorem step_keeps_reserved {s t : State} (h : step s = .next t) (c : CoreId) (i : CtrId)
    (hs : ((s.core c).counter i).sel &&& 0xFFFFFFFF00200000 = 0) :
    ((t.core c).counter i).sel &&& 0xFFFFFFFF00200000 = 0 := by
  obtain hsame | ⟨_, _, _, _, _, _, hcount⟩ | ⟨_, _, _, _, ⟨_, hsel⟩ | ⟨_, hctr⟩⟩ := step_counter_cases h c i
  · rw [hsame, hs]
  · rw [hcount]
    exact hs
  · rw [hsel]
    exact and_selMask_and_reserved _
  · rw [hctr]
    exact hs

/-- What a step does to the exceptions of a core (R305). -/
theorem step_traps {s t : State} (h : step s = .next t) (c : CoreId) : TrapsFrom (s.core c) (t.core c) := by
  obtain ⟨u, rfl, _, htraps⟩ := step_eq_advance h
  obtain ⟨hpending, hsaved⟩ := htraps c
  exact ⟨fun e he => hpending e (pendingTrap_advance u c ▸ he), fun e he => hsaved e (savedTrap_advance u c ▸ he)⟩

theorem step_turn {s t : State} (h : step s = .next t) (ha : t.env.agent ≠ .count) : t.ctr = .c0 := by
  obtain ⟨u, rfl, _⟩ := step_eq_advance h
  exact ctr_advance_of_agent_ne_count ha

theorem step_keeps_oneCore {s t : State} (h : step s = .next t) (hone : Config.dualCore = false)
    (hs : s.env.core = .core0) : t.env.core = .core0 := by
  obtain ⟨u, rfl, henv, _⟩ := step_eq_advance h
  exact core_env_advance hone (by rw [henv, hs])

theorem step_keeps_inv {s t : State} (hinv : Inv s) (h : step s = .next t) : Inv t where
  memory := by rw [step_keeps_mem h, hinv.memory]
  reserved c i := step_keeps_reserved h c i (hinv.reserved c i)
  raised c e he := by
    obtain hold | rfl := (step_traps h c).pending e he
    · exact hinv.raised c e hold
    · exact ⟨rfl, rfl⟩
  taken c e he := by
    obtain hold | hpending := (step_traps h c).saved e he
    · exact hinv.taken c e hold
    · exact hinv.raised c e hpending
  turn := step_turn h
  oneCore hone := step_keeps_oneCore h hone (hinv.oneCore hone)

/-- Settles O40: a step writes only described bits, raises only #GP(0), takes only what was raised, and hands over as D1
says. -/
theorem everyStepKeepsTheInvariant : Obligations.EveryStepKeepsTheInvariant :=
  fun _ _ => step_keeps_inv

end Sys2Proof.Machine

/-! ### The counting step (`41_counting.md`)

In an unhalted clock every event is R135 on an amount (`exec_event_unhalted`), so the statements fall into two kinds: what
the amount is (the catalogue against R79's table, R137's undefined configurations), and what R135 makes of any amount
(the gate, the edge detector, overflow and the outputs). -/

namespace Sys2Proof.Machine

/-! #### What R135 makes of an amount -/

section Increment

variable {q : Qualifiers} {cpl : BitVec 2}

theorem specInc_of_gateOpen (h : gateOpen q cpl = true) (prev : Bool) (a : Nat) :
    specInc q cpl prev a = candidate q prev a := by
  rw [← increment_eq_spec, increment, if_pos h]

theorem specInc_of_gateClosed (h : gateOpen q cpl = false) (prev : Bool) (a : Nat) : specInc q cpl prev a = 0 := by
  simp [← increment_eq_spec, increment, h]

theorem gateOpen_of_selected (hen : q.enable = true) (hl : (cpl = 0 ∧ q.os = true) ∨ (cpl ≠ 0 ∧ q.usr = true)) :
    gateOpen q cpl = true := by
  obtain ⟨hc, hos⟩ | ⟨hc, husr⟩ := hl
  · simp [gateOpen, modeSelected, hen, hc, hos]
  · have hc' : ¬cpl = 0#2 := hc
    simp [gateOpen, modeSelected, hen, hc', husr]

theorem gateOpen_of_disabled (h : q.enable = false) : gateOpen q cpl = false := by
  simp [gateOpen, h]

/-- R129: the three ways in which the gate is closed. -/
theorem gateOpen_of_closed (h : q.enable = false ∨ (cpl = 0 ∧ q.os = false) ∨ (cpl ≠ 0 ∧ q.usr = false)) :
    gateOpen q cpl = false := by
  obtain hen | ⟨hc, hos⟩ | ⟨hc, husr⟩ := h
  · exact gateOpen_of_disabled hen
  · simp [gateOpen, modeSelected, hc, hos]
  · have hc' : ¬cpl = 0#2 := hc
    simp [gateOpen, modeSelected, hc', husr]

theorem candidate_of_level (h : q.edge = false) (prev : Bool) (a : Nat) : candidate q prev a = a := by
  simp [candidate, h]

/-- R127: in edge mode a clock counts the rise of the signal. -/
theorem candidate_of_edge (h : q.edge = true) (prev : Bool) (a : Nat) :
    candidate q prev a = if a ≠ 0 ∧ prev = false then 1 else 0 := by
  simp [candidate, h, signal]

theorem candidate_le (q : Qualifiers) (prev : Bool) (a : Nat) : candidate q prev a ≤ a := by
  cases h : q.edge with
  | false => rw [candidate_of_level h]
  | true =>
    rw [candidate_of_edge h]
    split
    · next ha => exact Nat.one_le_iff_ne_zero.mpr ha.1
    · exact Nat.zero_le a

theorem specInc_le (q : Qualifiers) (cpl : BitVec 2) (prev : Bool) (a : Nat) : specInc q cpl prev a ≤ a := by
  cases h : gateOpen q cpl with
  | false => rw [specInc_of_gateClosed h]; exact Nat.zero_le a
  | true => rw [specInc_of_gateOpen h]; exact candidate_le q prev a

theorem specInc_le_one_of_edge (h : q.edge = true) (prev : Bool) (a : Nat) : specInc q cpl prev a ≤ 1 := by
  cases hg : gateOpen q cpl with
  | false => rw [specInc_of_gateClosed hg]; exact Nat.zero_le 1
  | true =>
    rw [specInc_of_gateOpen hg, candidate_of_edge h]
    split <;> omega

/-- R123 to R125: without a threshold the amount is the number of occurrences. -/
theorem specAmount_of_cntMask_zero (h : q.cntMask = 0) (n : Nat) : specAmount q n = n := by
  simp [specAmount, h]

theorem specAmount_le_one (h : 1 ≤ q.cntMask.toNat) (n : Nat) : specAmount q n ≤ 1 := by
  unfold specAmount
  repeat' split
  all_goals omega

end Increment

section Outputs

variable {q : Qualifiers} {cpl : BitVec 2} {a : Nat} {n : Counter} {c : CoreId} {i : CtrId}

theorem specCounter_ctr_of_specInc_zero (h : specInc q cpl n.prev a = 0) : (specCounter q cpl a n).ctr = n.ctr := by
  apply BitVec.eq_of_toNat_eq
  rw [toNat_ctr_specCounter, h, Nat.add_zero, Nat.mod_eq_of_lt n.ctr.isLt]

theorem not_specToggles_zero (q : Qualifiers) (k : Count) : ¬SpecToggles q k.toNat 0 := by
  have hlt := k.isLt
  unfold SpecToggles
  omega

theorem not_specRequests_zero (q : Qualifiers) (k : Count) : ¬SpecRequests q k.toNat 0 := by
  have hlt := k.isLt
  unfold SpecRequests
  omega

theorem specCounter_pin_of_specInc_zero (h : specInc q cpl n.prev a = 0) : (specCounter q cpl a n).pin = n.pin := by
  unfold specCounter
  rw [h]
  exact if_neg (not_specToggles_zero q n.ctr)

theorem specOutputs_of_specInc_zero (h : specInc q cpl n.prev a = 0) : specOutputs q cpl a n c i = [] := by
  unfold specOutputs
  rw [h, if_neg (not_specToggles_zero q n.ctr), if_neg (not_specRequests_zero q n.ctr)]
  rfl

theorem apicPerfInt_mem_specOutputs {c' : CoreId} {i' : CtrId} :
    Output.apicPerfInt c' i' ∈ specOutputs q cpl a n c i ↔
      SpecRequests q n.ctr.toNat (specInc q cpl n.prev a) ∧ c' = c ∧ i' = i := by
  simp only [specOutputs, List.mem_append, List.mem_ite_nil_right, List.mem_singleton, reduceCtorEq, and_false, or_false,
    Output.apicPerfInt.injEq]

theorem togglePM_mem_specOutputs :
    Output.togglePM c i ∈ specOutputs q cpl a n c i ↔ SpecToggles q n.ctr.toNat (specInc q cpl n.prev a) := by
  simp only [specOutputs, List.mem_append, List.mem_ite_nil_right, List.mem_singleton, reduceCtorEq, and_false, and_true,
    false_or]

theorem mem_specOutputs {o : Output} (h : o ∈ specOutputs q cpl a n c i) : o = .apicPerfInt c i ∨ o = .togglePM c i := by
  obtain h | h := List.mem_append.mp h
  · obtain ⟨_, h⟩ := List.mem_ite_nil_right.mp h
    exact .inl (List.mem_singleton.mp h)
  · obtain ⟨_, h⟩ := List.mem_ite_nil_right.mp h
    exact .inr (List.mem_singleton.mp h)

theorem specOutputs_nodup : (specOutputs q cpl a n c i).Nodup := by
  unfold specOutputs
  split <;> split <;> simp

theorem specCounter_pin : (specCounter q cpl a n).pin =
    (n.pin ^^ decide (Output.togglePM c i ∈ specOutputs q cpl a n c i)) := by
  simp only [specCounter, togglePM_mem_specOutputs]
  split <;> simp [*]

theorem requestCount_specOutputs : requestCount c i (specOutputs q cpl a n c i) =
    if SpecRequests q n.ctr.toNat (specInc q cpl n.prev a) then 1 else 0 := by
  unfold specOutputs requestCount
  split <;> split <;> simp

end Outputs

/-! #### What one counter's part of a clock leaves alone -/

section AfterCounting

variable (s : State) (q : Qualifiers) (a : Nat)

@[simp] theorem env_afterCounting : (afterCounting s q a).env = s.env :=
  State.env_setCore ..

@[simp] theorem ctr_afterCounting : (afterCounting s q a).ctr = s.ctr :=
  State.ctr_setCore ..

@[simp] theorem tick_afterCounting : (afterCounting s q a).tick = s.tick :=
  State.tick_setCore ..

@[simp] theorem mem_afterCounting : (afterCounting s q a).mem = s.mem :=
  State.mem_setCore ..

@[simp] theorem events_afterCounting : (afterCounting s q a).events = s.events :=
  State.events_setCore ..

theorem lines_afterCounting : (afterCounting s q a).lines = s.lines := by
  unfold State.lines
  rw [env_afterCounting]

@[simp] theorem cur_afterCounting : (afterCounting s q a).cur =
    s.cur.setCounter s.ctr (specCounter q s.lines.cpl a (s.cur.counter s.ctr)) := by
  unfold State.cur
  rw [env_afterCounting]
  exact (State.core_withOutputs ..).trans (State.core_setCore_same ..)

@[simp] theorem core_other_afterCounting :
    (afterCounting s q a).core s.env.core.other = s.core s.env.core.other :=
  (State.core_withOutputs ..).trans (State.core_setCore_other ..)

theorem counter_cur_afterCounting :
    (afterCounting s q a).cur.counter s.ctr = specCounter q s.lines.cpl a (s.cur.counter s.ctr) := by
  rw [cur_afterCounting, Core.counter_setCounter_same]

theorem outputs_afterCounting : (afterCounting s q a).outputs =
    s.outputs ++ specOutputs q s.lines.cpl a (s.cur.counter s.ctr) s.env.core s.ctr :=
  rfl

/-- R130, R133, R134: an increment of 0 leaves the value, the pin and the outputs. -/
theorem afterCounting_of_specInc_zero {s : State} {q : Qualifiers} {a : Nat}
    (h : specInc q s.lines.cpl (s.cur.counter s.ctr).prev a = 0) :
    ((afterCounting s q a).cur.counter s.ctr).ctr = (s.cur.counter s.ctr).ctr ∧
      ((afterCounting s q a).cur.counter s.ctr).pin = (s.cur.counter s.ctr).pin ∧
      (afterCounting s q a).outputs = s.outputs := by
  rw [counter_cur_afterCounting, outputs_afterCounting, specCounter_ctr_of_specInc_zero h,
    specCounter_pin_of_specInc_zero h, specOutputs_of_specInc_zero h, List.append_nil]
  exact ⟨rfl, rfl, rfl⟩

end AfterCounting

/-! #### Every event is R135 on an amount of at most 3 -/

theorem eventOf_of_qualifiers {i : Instr} {q : Qualifiers} (hq : qualifiers i = some q) : ∃ e, eventOf i = some e := by
  obtain rfl | rfl | rfl | ⟨e, _, he, _⟩ := register_or_event i
  · cases hq
  · cases hq
  · cases hq
  · exact ⟨e, he⟩

theorem exec_event_unhalted {i : Instr} {e : Event} {q : Qualifiers} {s : State} (he : eventOf i = some e)
    (hq : qualifiers i = some q) (hh : s.lines.halted = false) :
    exec i s = .next (afterCounting s q (eventAmount e q s)) := by
  rw [exec_event he hq, countEvent_unhalted e q hh]

theorem exec_event_halted {i : Instr} {q : Qualifiers} {s : State} (hq : qualifiers i = some q)
    (hh : s.lines.halted = true) : exec i s = .next s := by
  obtain ⟨e, he⟩ := eventOf_of_qualifiers hq
  rw [exec_event he hq, countEvent_halted e q hh]

/-- Settles O30: the amount is the event's, and `afterCounting` replaces one counter of one core. -/
theorem everyEventCountsByR135AndChangesNothingElse : Obligations.EveryEventCountsByR135AndChangesNothingElse := by
  intro s q i hq hh
  obtain ⟨e, he⟩ := eventOf_of_qualifiers hq
  refine ⟨_, eventAmount e q s, exec_event_unhalted he hq hh, eventAmount_le_three e q s, counter_cur_afterCounting ..,
    outputs_afterCounting .., fun j hj => ?_, fun j => ?_, core_other_afterCounting .., fun x => by rw [mem_afterCounting],
    ?_⟩
  · rw [cur_afterCounting, Core.counter_setCounter, if_neg hj]
  · rw [cur_afterCounting, Core.counter_setCounter]
    split
    · next hj => rw [hj]; rfl
    · rfl
  · simp

/-- Settles O31: behind a closed gate the increment is 0, so that nothing overflows and no pin toggles. -/
theorem closedGateKeepsTheCounter : Obligations.ClosedGateKeepsTheCounter := by
  intro s q i hq hgate
  cases hh : s.lines.halted with
  | true => exact ⟨s, exec_event_halted hq hh, rfl, rfl, rfl⟩
  | false =>
    obtain ⟨e, he⟩ := eventOf_of_qualifiers hq
    have hinc := specInc_of_gateClosed (gateOpen_of_closed hgate) (s.cur.counter s.ctr).prev (eventAmount e q s)
    exact ⟨_, exec_event_unhalted he hq hh, afterCounting_of_specInc_zero hinc⟩

/-- Settles O32: the increment is at most the amount, at most 1 in edge mode, and a threshold makes the amount 0 or 1. -/
theorem edgeModeAndThresholdsAdvanceByAtMostOne : Obligations.EdgeModeAndThresholdsAdvanceByAtMostOne := by
  intro s q i hq
  cases hh : s.lines.halted with
  | true =>
    refine ⟨s, 0, exec_event_halted hq hh, ?_, by omega, fun _ => by omega, fun _ _ _ _ => Nat.zero_le _⟩
    rw [Nat.add_zero, Nat.mod_eq_of_lt (s.cur.counter s.ctr).ctr.isLt]
  | false =>
    obtain ⟨e, he⟩ := eventOf_of_qualifiers hq
    refine ⟨_, specInc q s.lines.cpl (s.cur.counter s.ctr).prev (eventAmount e q s), exec_event_unhalted he hq hh, ?_,
      specInc_le_three q _ _ (eventAmount_le_three e q s), fun hedge => specInc_le_one_of_edge hedge ..,
      fun hlo hhi hu hn => ?_⟩
    · rw [counter_cur_afterCounting, toNat_ctr_specCounter]
    · have hplain : PlainFieldsDefined q := ⟨by omega, fun hz => by simp [hz] at hlo⟩
      have hinc := specInc_le q s.lines.cpl (s.cur.counter s.ctr).prev (eventAmount e q s)
      rw [eventAmount_eq he hplain hu hn] at hinc ⊢
      refine hinc.trans ?_
      unfold amountOnPart
      split
      · exact specAmount_le_one hlo _
      · exact Nat.le_refl _

/-- Settles O33: the increment is the one of R129, the emitted outputs are R133's and R134's. -/
theorem overflowRequestsAndPinToggles : Obligations.OverflowRequestsAndPinToggles := by
  intro s q i hq hh
  obtain ⟨e, he⟩ := eventOf_of_qualifiers hq
  refine ⟨_, specInc q s.lines.cpl (s.cur.counter s.ctr).prev (eventAmount e q s), _, exec_event_unhalted he hq hh,
    specInc_le_three q _ _ (eventAmount_le_three e q s), fun hen => specInc_of_gateClosed (gateOpen_of_disabled hen) ..,
    ?_, outputs_afterCounting .., ?_, togglePM_mem_specOutputs, ?_, specOutputs_nodup, fun o => mem_specOutputs⟩
  · rw [counter_cur_afterCounting, toNat_ctr_specCounter]
  · rw [apicPerfInt_mem_specOutputs]
    simp
  · rw [counter_cur_afterCounting]
    exact specCounter_pin

/-- R121, R137: the amount is a function of the inputs, the turn, the step's number, the part, and what the other core's
PerfEvtSel of this number holds. -/
theorem eventAmount_congr (e : Event) (q : Qualifiers) {s t : State} (henv : s.env = t.env) (hctr : s.ctr = t.ctr)
    (htick : s.tick = t.tick) (hevents : s.events = t.events)
    (hother : ((s.core s.env.core.other).counter s.ctr).sel = ((t.core t.env.core.other).counter t.ctr).sel) :
    eventAmount e q s = eventAmount e q t := by
  unfold eventAmount heldByOtherCore
  rw [hother, henv, hctr, htick, hevents]

/-- Settles O34: both runs count the same amount on the same counter. -/
theorem countersDoNotAffectEachOther : Obligations.CountersDoNotAffectEachOther := by
  intro s s' q i hq henv hctr htick hevents hcounter hother
  have hlines : s.lines = s'.lines := by rw [State.lines, State.lines, henv]
  cases hh : s.lines.halted with
  | true =>
    exact ⟨s, s', [], exec_event_halted hq hh, exec_event_halted hq (hlines ▸ hh), hcounter, by simp, by simp⟩
  | false =>
    obtain ⟨e, he⟩ := eventOf_of_qualifiers hq
    have hamount := eventAmount_congr e q henv hctr htick hevents hother
    refine ⟨_, _, _, exec_event_unhalted he hq hh, exec_event_unhalted he hq (hlines ▸ hh), ?_,
      outputs_afterCounting .., ?_⟩
    · rw [counter_cur_afterCounting, counter_cur_afterCounting, hamount, hlines, hcounter]
    · rw [outputs_afterCounting, hamount, hlines, hcounter, henv, hctr]

end Sys2Proof.Machine

/-! ### The amount of a clock (`41_counting.md` sections 1 to 3 and 7, `30_encoding.md` R79, R80)

Where R137 leaves the configuration defined the amount is the rules' (`exec_event_defined`), where it does not the amount
is the draw (`exec_event_undefined`). What is left to say of each event is read off its catalogue entry. -/

namespace Sys2Proof.Machine

/-! #### The catalogue against R79's table -/

/-- What R79 and R287 ask of a catalogue entry: a code without a UNIT_MASK table has no bits in R79's; a code with one has
there the bits of its rows; only event E9h has request paths. -/
def Event.followsTable (e : Event) : Bool :=
  match e.source with
  | .noTable _ => tableBits e.code == 0
  | .everyClock => tableBits e.code == 0
  | .table rows => e.code != 0xE9 && definedBits .eOrLater rows == tableBits e.code
  | .requestFlow paths => e.code == 0xE9 && definedBits .eOrLater paths == tableBits e.code

theorem followsTable_of_eventOf {i : Instr} {e : Event} (h : eventOf i = some e) : e.followsTable = true := by
  cases i with
  | wrmsr | rdmsr | rdpmc => cases h
  | _ q => cases h; rfl

theorem Rev.le_eOrLater (r : Rev) : r.le .eOrLater = true := by
  cases r <;> rfl

theorem definedBits_cons (rev : Rev) (l : Lane) (ls : List Lane) :
    definedBits rev (l :: ls) = if l.since.le rev then l.mask ||| definedBits rev ls else definedBits rev ls :=
  rfl

/-- D25: the newest revision class has every row. -/
theorem definedBits_eOrLater (rows : List Lane) :
    definedBits .eOrLater rows = (rows.map Lane.mask).foldr (· ||| ·) 0 := by
  induction rows with
  | nil => rfl
  | cons l ls ih =>
    rw [definedBits_cons, if_pos (Rev.le_eOrLater _), ih]
    rfl

theorem definedBits_or_eOrLater (rev : Rev) (rows : List Lane) :
    definedBits rev rows ||| definedBits .eOrLater rows = definedBits .eOrLater rows := by
  induction rows with
  | nil => exact BitVec.or_self
  | cons l ls ih =>
    have hskip : definedBits rev ls ||| (l.mask ||| definedBits .eOrLater ls) = l.mask ||| definedBits .eOrLater ls := by
      rw [← BitVec.or_assoc, BitVec.or_comm _ l.mask, BitVec.or_assoc, ih]
    rw [definedBits_cons, definedBits_cons, if_pos (Rev.le_eOrLater _)]
    split
    · rw [BitVec.or_assoc, hskip, ← BitVec.or_assoc, BitVec.or_self]
    · exact hskip

/-- A bit outside a mask is outside every smaller one. -/
theorem mask_outside_of_or_eq {um d t : BitVec 8} (hd : d ||| t = t) (h : um &&& ~~~t ≠ 0) : um &&& ~~~d ≠ 0 := by
  intro hz
  apply h
  rw [← hd, BitVec.not_or, ← BitVec.and_assoc, hz]
  exact BitVec.zero_and

/-- R137 (b): a bit that R79's table does not define is defined on no part. -/
theorem unitMaskUndefined_of_outside {i : Instr} {e : Event} (he : eventOf i = some e) {um : BitVec 8}
    (hz : tableBits e.code ≠ 0) (h : um &&& ~~~(tableBits e.code) ≠ 0) (rev : Rev) (listed : BitVec 8) :
    e.unitMaskUndefined rev listed um = true := by
  have hrows : ∀ rows, definedBits .eOrLater rows = tableBits e.code →
      (um &&& ~~~(definedBits rev rows &&& listed) != 0) = true := by
    intro rows hrows
    rw [mask_outside, bne_iff_ne.mpr (mask_outside_of_or_eq (hrows ▸ definedBits_or_eOrLater rev rows) h), Bool.true_or]
  have hf := followsTable_of_eventOf he
  unfold Event.followsTable at hf
  unfold Event.unitMaskUndefined
  cases hs : e.source with
  | noTable k => simp only [hs] at hf; exact absurd (beq_iff_eq.mp hf) hz
  | everyClock => simp only [hs] at hf; exact absurd (beq_iff_eq.mp hf) hz
  | table rows =>
    simp only [hs, Bool.and_eq_true, beq_iff_eq] at hf
    exact hrows rows hf.2
  | requestFlow paths =>
    simp only [hs, Bool.and_eq_true, beq_iff_eq] at hf
    simp only [hrows paths hf.2, Bool.true_or]

/-- R287, U7: when event E9h's UNIT_MASK is undefined. -/
theorem unitMaskUndefined_E9h (rev : Rev) (listed um : BitVec 8) : eventE9h.unitMaskUndefined rev listed um =
    ((um &&& ~~~(0xFF &&& listed) != 0) || (um &&& 0x0F == 0) || (um &&& 0xC0 == 0) || (um &&& 0x30 == 0) ||
      !(requestPaths.any fun p => um &&& p == p)) := by
  cases rev <;> rfl

/-- R122: an event without a table has no undefined UNIT_MASK. -/
theorem unitMaskDefined_of_noBits {code : BitVec 8} (h : tableBits code = 0) (um : BitVec 8) : UnitMaskDefined code um :=
  ⟨fun hne => absurd h hne, fun hc => absurd (hc ▸ h) (by decide)⟩

theorem unitMaskDefined_of_noTable {i : Instr} {e : Event} {k : Kind} (he : eventOf i = some e)
    (hs : e.source = .noTable k) (um : BitVec 8) : UnitMaskDefined (codeOf i) um := by
  have hf := followsTable_of_eventOf he
  simp only [Event.followsTable, hs, beq_iff_eq] at hf
  rw [codeOf_eq he]
  exact unitMaskDefined_of_noBits hf um

theorem unitMaskDefined_of_table {i : Instr} {e : Event} {rows : List Lane} {um : BitVec 8} (he : eventOf i = some e)
    (hs : e.source = .table rows) (h : um &&& ~~~((rows.map Lane.mask).foldr (· ||| ·) 0) = 0) :
    UnitMaskDefined (codeOf i) um := by
  have hf := followsTable_of_eventOf he
  simp only [Event.followsTable, hs, Bool.and_eq_true, bne_iff_ne, beq_iff_eq] at hf
  obtain ⟨hcode, hbits⟩ := hf
  rw [codeOf_eq he]
  refine ⟨fun _ => ?_, fun hc => absurd hc hcode⟩
  rw [← hbits, definedBits_eOrLater, h]

/-! #### Defined configurations count what the event reports -/

theorem exec_event_defined {i : Instr} {e : Event} {q : Qualifiers} {s : State} (he : eventOf i = some e)
    (hq : qualifiers i = some q) (hh : s.lines.halted = false) (hp : PlainFieldsDefined q)
    (hu : UnitMaskDefined (codeOf i) q.unitMask) (hn : ¬OtherCoreSelectsNorthbridge s) :
    exec i s = .next (afterCounting s q
      (amountOnPart s (codeOf i) q.unitMask (specAmount q (e.occ q.unitMask (s.env.occ.get s.ctr))))) := by
  rw [exec_event_unhalted he hq hh, eventAmount_eq he hp hu hn]

/-- The fields of an instruction's control word, and what it counts. -/
def formOf (i : Instr) : Option Qualifiers × Option Source :=
  (qualifiers i, (eventOf i).map Event.source)

theorem eventOf_of_formOf {i : Instr} {q : Qualifiers} {src : Source} (h : formOf i = (some q, some src)) :
    qualifiers i = some q ∧ ∃ e, eventOf i = some e ∧ e.source = src := by
  obtain ⟨hq, hsrc⟩ := Prod.mk.inj h
  exact ⟨hq, Option.map_eq_some_iff.mp hsrc⟩

/-- R122: an event without a table counts its one report, whatever UNIT_MASK holds. -/
theorem exec_noTable {i : Instr} {q : Qualifiers} {k : Kind} {s : State} (hi : formOf i = (some q, some (.noTable k)))
    (hh : s.lines.halted = false) (hp : PlainFieldsDefined q) (hn : ¬OtherCoreSelectsNorthbridge s) :
    exec i s = .next (afterCounting s q
      (amountOnPart s (codeOf i) q.unitMask (specAmount q (k.bound (s.env.occ.get s.ctr).count)))) := by
  obtain ⟨hq, e, he, hs⟩ := eventOf_of_formOf hi
  rw [exec_event_defined he hq hh hp (unitMaskDefined_of_noTable he hs _) hn, Event.occ, hs]

theorem Kind.bound_occurrence (n : BitVec 2) : Kind.occurrence.bound n = n.toNat :=
  rfl

theorem Kind.bound_cycle (n : BitVec 2) : Kind.cycle.bound n = if n = 0 then 0 else 1 :=
  rfl

/-- A property that is computed to be the same for every entry of a list is that of each member. -/
theorem apply_eq_of_mem {α β : Type} {f : α → β} {b : β} {l : List α} {a : α} (ha : a ∈ l)
    (h : l.map f = List.replicate l.length b) : f a = b :=
  List.eq_of_mem_replicate (h ▸ List.mem_map_of_mem ha)

/-- Settles O21: the catalogue has each of these codes as an occurrence event without a table. -/
theorem eventsWithoutATableCountOccurrences : Obligations.EventsWithoutATableCountOccurrences := by
  intro s q i hi hh hp hn
  have hform := apply_eq_of_mem (f := formOf) (b := (some q, some (.noTable .occurrence))) hi rfl
  rw [exec_noTable hform hh hp hn, Kind.bound_occurrence]

/-- Settles O22: the catalogue has each of these codes as a cycle event without a table. -/
theorem cycleEventsCountTheClocksOfACondition : Obligations.CycleEventsCountTheClocksOfACondition := by
  intro s q i hi hh hp hn
  have hform := apply_eq_of_mem (f := formOf) (b := (some q, some (.noTable .cycle))) hi rfl
  rw [exec_noTable hform hh hp hn, Kind.bound_cycle]

/-- A row as the rules' sum names it: its mask, and whether it is a condition (R141). -/
def Lane.row (l : Lane) : BitVec 8 × Bool :=
  (l.mask, l.kind == .cycle)

/-- What one row adds, its report being `n` (R122, R141). -/
def rowAmount (um : BitVec 8) (row : BitVec 8 × Bool) (n : BitVec 2) : Nat :=
  if um &&& row.1 = row.1 then (if row.2 then (if n = 0 then 0 else 1) else n.toNat) else 0

theorem selectedSum_cons (um : BitVec 8) (row : BitVec 8 × Bool) (rows : List (BitVec 8 × Bool)) (ns : List (BitVec 2)) :
    selectedSum um (row :: rows) ns = rowAmount um row (ns.headD 0) + selectedSum um rows ns.tail := by
  have htail : ∀ k, ns.getD (k + 1) 0 = ns.tail.getD k 0 := by
    intro k
    cases ns <;> rfl
  have hhead : ns.getD 0 0 = ns.headD 0 := by
    cases ns <;> rfl
  simp only [selectedSum, rowAmount, List.length_cons, List.range_succ_eq_map, List.map_cons, List.map_map, List.sum_cons,
    Function.comp_def, Nat.succ_eq_add_one, List.getD_cons_succ, List.getD_cons_zero, htail, hhead]

theorem Lane.amount_eq (l : Lane) (um : BitVec 8) (n : BitVec 2) :
    (if l.selected um then l.kind.bound n else 0) = rowAmount um l.row n := by
  obtain ⟨mask, kind, since⟩ := l
  cases kind <;> simp [Lane.selected, rowAmount, Lane.row, Kind.bound]

/-- R122: the machine's sum over a table is the rules'. -/
theorem laneSum_eq_selectedSum (um : BitVec 8) (rows : List Lane) (ns : List (BitVec 2)) :
    laneSum um rows ns = selectedSum um (rows.map Lane.row) ns := by
  induction rows generalizing ns with
  | nil => rfl
  | cons l ls ih => rw [laneSum, List.map_cons, selectedSum_cons, Lane.amount_eq, ih]

/-- The rows of the UNIT_MASK table of an instruction's event, where it has one. -/
def tableRows (i : Instr) : Option (List (BitVec 8 × Bool)) :=
  match (eventOf i).map Event.source with
  | some (.table rows) => some (rows.map Lane.row)
  | _ => none

theorem eventOf_of_tableRows {i : Instr} {rows : List (BitVec 8 × Bool)} (h : tableRows i = some rows) :
    ∃ e lanes, eventOf i = some e ∧ e.source = .table lanes ∧ lanes.map Lane.row = rows := by
  unfold tableRows at h
  split at h
  · next lanes hs =>
    obtain ⟨e, he, hs⟩ := Option.map_eq_some_iff.mp hs
    exact ⟨e, lanes, he, hs, Option.some.inj h⟩
  · cases h

/-- Settles O24: the catalogue has the listed rows, and adds them as the rules do. -/
theorem tableEventsAddTheSelectedRows : Obligations.TableEventsAddTheSelectedRows := by
  intro s q i rows hi hh hp hn hum
  have hform := apply_eq_of_mem (f := fun p => (qualifiers p.1, tableRows p.1 == some p.2)) (b := (some q, true)) hi rfl
  obtain ⟨hq, hrows⟩ := Prod.mk.inj hform
  obtain ⟨e, lanes, he, hs, rfl⟩ := eventOf_of_tableRows (beq_iff_eq.mp hrows)
  have hu : UnitMaskDefined (codeOf i) q.unitMask := by
    refine unitMaskDefined_of_table he hs ?_
    rw [List.foldr_map] at hum ⊢
    exact hum
  rw [exec_event_defined he hq hh hp hu hn, Event.occ, hs]
  simp only [laneSum_eq_selectedSum]

/-! #### Undefined configurations count the draw -/

theorem exec_event_undefined {i : Instr} {e : Event} {q : Qualifiers} {s : State} (he : eventOf i = some e)
    (hq : qualifiers i = some q) (hh : s.lines.halted = false)
    (hu : undefinedConfig Config.rev (s.events.bitsOf e.code) e q (heldByOtherCore s) = true) :
    exec i s = .next (afterCounting s q (Config.draw s.tick).toNat) := by
  rw [exec_event_unhalted he hq hh, eventAmount, amountOf, if_pos hu]

theorem undefinedConfig_of_reservedFields {q : Qualifiers}
    (h : q.cntMask.toNat ≥ 4 ∨ (q.cntMask = 0 ∧ q.invert = true)) (rev : Rev) (listed : Option (BitVec 8)) (e : Event)
    (shared : Bool) : undefinedConfig rev listed e q shared = true := by
  obtain hc | ⟨hc, hi⟩ := h
  · have hres : cntMaskReserved q = true := decide_eq_true hc
    simp [undefinedConfig, hres]
  · have hinv : invertUndefined q = true := by simp [invertUndefined, hc, hi]
    simp [undefinedConfig, hinv]

theorem undefinedConfig_of_unitMask {rev : Rev} {e : Event} {q : Qualifiers}
    (h : ∀ bits, e.unitMaskUndefined rev bits q.unitMask = true) (listed : Option (BitVec 8)) (shared : Bool) :
    undefinedConfig rev listed e q shared = true := by
  have hu : e.undefinedOn rev listed q.unitMask = true := by
    cases listed with
    | none => rfl
    | some bits => simp [Event.undefinedOn, h bits]
  simp [undefinedConfig, hu]

/-- Settles O26: either field makes the configuration undefined, whatever the event and the part. -/
theorem reservedFieldsCountADraw : Obligations.ReservedFieldsCountADraw := by
  intro s q i hq hh hfields
  obtain ⟨e, he⟩ := eventOf_of_qualifiers hq
  exact exec_event_undefined he hq hh (undefinedConfig_of_reservedFields hfields ..)

/-- R287: no type, no source, no target or no supported path. -/
theorem unitMaskUndefined_E9h_of_incomplete {um : BitVec 8}
    (h : um.extractLsb' 0 4 = 0 ∨ um.extractLsb' 6 2 = 0 ∨ um.extractLsb' 4 2 = 0 ∨ ∀ p ∈ requestPaths, um &&& p ≠ p)
    (rev : Rev) (listed : BitVec 8) : eventE9h.unitMaskUndefined rev listed um = true := by
  have hfield : ∀ um : BitVec 8, (um.extractLsb' 0 4 = 0 → (um &&& 0x0F == 0) = true) ∧
      (um.extractLsb' 6 2 = 0 → (um &&& 0xC0 == 0) = true) ∧
      (um.extractLsb' 4 2 = 0 → (um &&& 0x30 == 0) = true) := by decide
  obtain ⟨htype, hsource, htarget⟩ := hfield um
  rw [unitMaskUndefined_E9h]
  obtain h | h | h | h := h
  · simp only [htype h, Bool.or_true, Bool.true_or]
  · simp only [hsource h, Bool.or_true, Bool.true_or]
  · simp only [htarget h, Bool.or_true, Bool.true_or]
  · have hany : (requestPaths.any fun p => um &&& p == p) = false := by simpa using h
    simp [hany]

/-- Settles O27: the listed bits are R79's, and E9h's four conditions are the machine's. -/
theorem undefinedUnitMasksCountADraw : Obligations.UndefinedUnitMasksCountADraw := by
  intro s q hh
  constructor
  · intro i defined hi hum
    have hform := apply_eq_of_mem (b := (some q, some (true, true))) hi
      (f := fun p => (qualifiers p.1, (eventOf p.1).map fun e => (tableBits e.code == p.2, p.2 != 0))) rfl
    obtain ⟨hq, hbits⟩ := Prod.mk.inj hform
    obtain ⟨e, he, hbits⟩ := Option.map_eq_some_iff.mp hbits
    simp only [Prod.mk.injEq, beq_iff_eq, bne_iff_ne] at hbits
    obtain ⟨rfl, hz⟩ := hbits
    exact exec_event_undefined he hq hh (undefinedConfig_of_unitMask (unitMaskUndefined_of_outside he hz hum _) ..)
  · intro hum
    exact exec_event_undefined rfl rfl hh (undefinedConfig_of_unitMask (unitMaskUndefined_E9h_of_incomplete hum _) ..)

/-- Settles O8: the machine's threshold by the three cases of CNT_MASK and INV. -/
theorem thresholdsFollowTheCounterMask : Obligations.ThresholdsFollowTheCounterMask := by
  intro q n hn
  have hne : 1 ≤ q.cntMask.toNat → q.cntMask ≠ 0 := fun hlo hz => by simp [hz] at hlo
  refine ⟨fun hz hi => ?_, fun hlo _ hi => ?_, fun hlo _ hi => ?_, fun hone => ?_,
    fun hfields rev listed e shared => undefinedConfig_of_reservedFields hfields rev listed e shared⟩
  · rw [threshold, if_pos hz]
    exact ⟨rfl, hn⟩
  · rw [threshold, if_neg (hne hlo), hi]
    rfl
  · rw [threshold, if_neg (hne hlo), hi]
    rfl
  · cases hi : q.invert with
    | true => simp [threshold, hone, hi]
    | false => simp [threshold, hone, hi, Nat.one_le_iff_ne_zero]

end Sys2Proof.Machine

/-! ### Steps and clocks of the counting agent (`41_counting.md` R135, R136, D1, D7)

One step of the counting agent is one counter's part of a clock (`step_count_unhalted`), and four steps are a clock: each
part is computed from the state before the clock, since a part touches no other counter and no input (`InClock`). -/

namespace Sys2Proof.Machine

/-! #### One step -/

theorem ctrNumber_succ_cases {i j : CtrId} (h : ctrNumber j = ctrNumber i + 1) :
    (i = .c0 ∧ j = .c1) ∨ (i = .c1 ∧ j = .c2) ∨ (i = .c2 ∧ j = .c3) := by
  revert h
  cases i <;> cases j <;> decide

section Advance

variable {s : State}

theorem advance_of_next_turn {j : CtrId} (ha : s.env.agent = .count) (hj : ctrNumber j = ctrNumber s.ctr + 1) :
    advance s = nextCounter j s := by
  unfold advance
  rw [ha]
  obtain ⟨hs, rfl⟩ | ⟨hs, rfl⟩ | ⟨hs, rfl⟩ := ctrNumber_succ_cases hj <;> rw [hs]

theorem advance_of_last_turn (ha : s.env.agent = .count) (hs : s.ctr = .c3) : advance s = boundary (clockDone s) := by
  unfold advance
  rw [ha, hs]

theorem clockDone_halted (hh : s.lines.halted = true) : clockDone s = s := by
  simp [clockDone, hh]

theorem clockDone_unhalted (hh : s.lines.halted = false) :
    clockDone s = s.setCur { s.cur with clockOwed := false } := by
  simp [clockDone, hh]

/-- R136: handing over from a halted counting agent ends no clock. -/
theorem core_advance_of_halted (ha : s.env.agent = .count) (hh : s.lines.halted = true) (c : CoreId) :
    (advance s).core c = s.core c := by
  unfold advance
  rw [ha]
  cases s.ctr with
  | c3 => simp only [clockDone_halted hh]; cases c <;> rfl
  | _ => cases c <;> rfl

end Advance

theorem step_of_selected_ok {s : State} {i : Instr} (ha : s.env.agent = .count) (hs : selected s = .ok i) :
    step s = advanceOutcome (exec i s) := by
  simp [step, ha, countingAgent, hs]

theorem countReserved_halted {s : State} (q : Qualifiers) (h : s.lines.halted = true) : countReserved q s = s := by
  simp [countReserved, h]

/-- R136: the counting agent of a halted core only hands over. -/
theorem step_count_halted {s : State} (ha : s.env.agent = .count) (hh : s.lines.halted = true) :
    step s = .next (advance s) := by
  cases hs : selected s with
  | ok i =>
    obtain ⟨e, _, hq⟩ := eventOf_decodeControl hs
    rw [step_of_selected_ok ha hs, exec_event_halted hq hh]
    rfl
  | error e => rw [step_of_selected_error ha hs, countReserved_halted _ hh]

/-- R135: a step of the counting agent of an unhalted core is the part of the counter whose turn it is. -/
theorem step_count_unhalted {s : State} (ha : s.env.agent = .count) (hh : s.lines.halted = false) :
    step s = .next (advance (afterCounting s (qualifiersOf (s.cur.counter s.ctr).sel) (clockAmount s s.ctr 0))) := by
  cases hs : selected s with
  | ok i =>
    obtain ⟨e, he, hq⟩ := eventOf_decodeControl hs
    have hamount : clockAmount s s.ctr 0 = eventAmount e (qualifiersOf (s.cur.counter s.ctr).sel) s := by
      have hs' : decodeControl ((s.core s.env.core).counter s.ctr).sel = .ok i := hs
      simp only [clockAmount, hs', he]
      rfl
    rw [step_of_selected_ok ha hs, exec_event_unhalted he hq hh, hamount]
    rfl
  | error e =>
    have hamount : clockAmount s s.ctr 0 = (Config.draw s.tick).toNat := by
      have hs' : decodeControl ((s.core s.env.core).counter s.ctr).sel = .error e := hs
      simp only [clockAmount, hs']
      rfl
    rw [step_of_selected_error ha hs, countReserved_unhalted _ hh, hamount]

/-- R242: in a defined configuration event 76h occurs once in every unhalted clock, on a part that has it. -/
theorem exec_evt76h {s : State} {q : Qualifiers} (hh : s.lines.halted = false) (hp : PlainFieldsDefined q)
    (hn : ¬OtherCoreSelectsNorthbridge s) :
    exec (.evt76h q) s = .next (afterCounting s q (amountOnPart s 0x76 q.unitMask (specAmount q 1))) := by
  have hcode : codeOf (.evt76h q) = 0x76 := codeOf_eq (e := event76h) rfl
  rw [exec_event_defined rfl rfl hh hp (unitMaskDefined_of_noBits (by rw [hcode]; rfl) _) hn, hcode]
  rfl

/-- Settles O29: a halted core's step is a hand-over that ends no clock, and event 76h's one occurrence is its catalogue
entry. -/
theorem haltedCoresCountNothing : Obligations.HaltedCoresCountNothing := by
  refine ⟨fun s ha hh => ?_, fun s q hh => ?_, fun s q hh hp hn => ?_⟩
  · exact ⟨_, step_count_halted ha hh, core_advance_of_halted ha hh, outputs_advance s⟩
  · exact ⟨fun i hq => exec_event_halted hq hh, countReserved_halted q hh⟩
  · exact exec_evt76h hh hp hn

@[simp] theorem env_countEvent (e : Event) (q : Qualifiers) (s : State) : (countEvent e q s).env = s.env := by
  cases hh : s.lines.halted with
  | true => rw [countEvent_halted e q hh]
  | false => rw [countEvent_unhalted e q hh, env_afterCounting]

@[simp] theorem ctr_countEvent (e : Event) (q : Qualifiers) (s : State) : (countEvent e q s).ctr = s.ctr := by
  cases hh : s.lines.halted with
  | true => rw [countEvent_halted e q hh]
  | false => rw [countEvent_unhalted e q hh, ctr_afterCounting]

/-- Settles O5: the instruction leaves the agent and the turn as they were, so the hand-over is that of the old state. -/
theorem stepRunsTheSelectedEvent : Obligations.StepRunsTheSelectedEvent := by
  intro s i ha hs
  obtain ⟨e, he, hq⟩ := eventOf_decodeControl hs
  have henv := env_countEvent e (qualifiersOf (s.cur.counter s.ctr).sel) s
  have hctr := ctr_countEvent e (qualifiersOf (s.cur.counter s.ctr).sel) s
  rw [step_of_selected_ok ha hs, exec_event he hq]
  generalize countEvent e (qualifiersOf (s.cur.counter s.ctr).sel) s = t at henv hctr ⊢
  have hlines : t.lines = s.lines := by rw [State.lines, State.lines, henv]
  refine congrArg Host.Outcome.next ?_
  cases hc : s.ctr with
  | c3 =>
    rw [advance_of_last_turn (henv ▸ ha) (hctr.trans hc), ← hlines]
    cases hh : t.lines.halted with
    | true => rw [clockDone_halted hh]; rfl
    | false => simp [clockDone_unhalted hh, boundary]
  | _ => exact advance_of_next_turn (henv ▸ ha) (by rw [hctr, hc]; rfl)

theorem step_of_fetched_waiting {s : State} {i : Instr} (ha : s.env.agent = .instr) (hh : s.lines.halted = false)
    (hp : s.cur.pendingTrap = none) (hf : fetched s = .ok i) (hw : waitsForClock i s.cur = true) :
    step s = .next (advance s) := by
  simp [step, ha, instructionAgent, hh, hp, hf, hw]

/-- Settles O48: the wait of D7 is a hand-over. -/
theorem secondWrmsrWaitsForAClock : Obligations.SecondWrmsrWaitsForAClock := by
  intro s ha hh hp hf howed
  have hw : waitsForClock .wrmsr s.cur = true := by simp [waitsForClock, howed]
  rw [step_of_fetched_waiting ha hh hp hf hw, advance_of_agent_instr ha]
  rfl

/-! #### Four steps are one clock -/

/-- Counter `i`'s part of the clock that `s` begins, as the `k`-th part, done in the state `t`. -/
def clockPart (s : State) (i : CtrId) (k : Nat) (t : State) : State :=
  { t.setCur (t.cur.setCounter i (clockCounter s i k)) with outputs := t.outputs ++ clockOutputs s i k }

theorem ctr_clockPart (s : State) (i : CtrId) (k : Nat) (t : State) : (clockPart s i k t).ctr = t.ctr :=
  State.ctr_setCur ..

theorem cur_clockPart (s : State) (i : CtrId) (k : Nat) (t : State) :
    (clockPart s i k t).cur = t.cur.setCounter i (clockCounter s i k) := by
  have henv : (clockPart s i k t).env = t.env := State.env_setCur ..
  rw [State.cur, henv, clockPart, State.core_withOutputs]
  exact State.core_setCore_same ..

theorem cur_nextCounter (i : CtrId) (s : State) : (nextCounter i s).cur = s.cur :=
  State.core_withTurn ..

/-- `t` stands `k` parts into the clock that `s` begins: the turn is at counter `k`, and what the parts to come are
computed from is as it was in `s`. -/
structure InClock (s : State) (k : Nat) (t : State) : Prop where
  env : t.env = s.env
  turn : ctrNumber t.ctr = k
  tick : t.tick = s.tick + k
  events : t.events = s.events
  other : t.core s.env.core.other = s.core s.env.core.other
  uncounted : ∀ j, k ≤ ctrNumber j → t.cur.counter j = s.cur.counter j

theorem InClock.start {s : State} (h : s.ctr = .c0) : InClock s 0 s :=
  ⟨rfl, by rw [h]; rfl, rfl, rfl, rfl, fun _ _ => rfl⟩

namespace InClock

variable {s t : State} {k : Nat}

theorem lines_eq (h : InClock s k t) : t.lines = s.lines := by
  rw [State.lines, State.lines, h.env]

theorem counter_eq (h : InClock s k t) : t.cur.counter t.ctr = s.cur.counter t.ctr :=
  h.uncounted t.ctr h.turn.ge

/-- R120, R135: the amount of a part does not depend on the parts before it. -/
theorem clockAmount_eq (h : InClock s k t) : clockAmount t t.ctr 0 = clockAmount s t.ctr k := by
  have hcore : (t.core t.env.core).counter t.ctr = (s.core s.env.core).counter t.ctr := h.counter_eq
  have hev : ∀ e q, eventAmount e q { t with ctr := t.ctr, tick := t.tick + 0 } =
      eventAmount e q { s with ctr := t.ctr, tick := s.tick + k } := by
    intro e q
    refine eventAmount_congr e q h.env rfl (by simp [h.tick]) h.events ?_
    rw [State.core_withTurn, State.core_withTurn]
    change ((t.core t.env.core.other).counter t.ctr).sel = ((s.core s.env.core.other).counter t.ctr).sel
    rw [h.env, h.other]
  unfold clockAmount
  simp only [hcore, hev]
  rw [Nat.add_zero, h.tick]

theorem afterCounting_eq (h : InClock s k t) :
    afterCounting t (qualifiersOf (t.cur.counter t.ctr).sel) (clockAmount t t.ctr 0) = clockPart s t.ctr k t := by
  have hcounter : specCounter (qualifiersOf (t.cur.counter t.ctr).sel) t.lines.cpl (clockAmount t t.ctr 0)
      (t.cur.counter t.ctr) = clockCounter s t.ctr k := by
    rw [h.clockAmount_eq, h.counter_eq, h.lines_eq]
    rfl
  have houtputs : specOutputs (qualifiersOf (t.cur.counter t.ctr).sel) t.lines.cpl (clockAmount t t.ctr 0)
      (t.cur.counter t.ctr) t.env.core t.ctr = clockOutputs s t.ctr k := by
    rw [h.clockAmount_eq, h.counter_eq, h.lines_eq, h.env]
    rfl
  rw [clockPart, ← hcounter, ← houtputs]
  rfl

theorem env_clockPart (h : InClock s k t) (i : CtrId) : (clockPart s i k t).env = s.env :=
  (State.env_setCur ..).trans h.env

theorem step_eq (h : InClock s k t) (ha : s.env.agent = .count) (hh : s.lines.halted = false) {i : CtrId}
    (hi : t.ctr = i) : step t = .next (advance (clockPart s i k t)) := by
  rw [step_count_unhalted (h.env ▸ ha) (h.lines_eq ▸ hh), h.afterCounting_eq, hi]

theorem next (h : InClock s k t) {i j : CtrId} (hi : t.ctr = i) (hj : ctrNumber j = k + 1) :
    InClock s (k + 1) (nextCounter j (clockPart s i k t)) where
  env := h.env_clockPart i
  turn := hj
  tick := by
    have ht : (clockPart s i k t).tick = t.tick := State.tick_setCur ..
    rw [nextCounter, ht, h.tick, Nat.add_assoc]
  events := (State.events_setCur ..).trans h.events
  other := by
    rw [nextCounter, State.core_withTurn, clockPart, State.core_withOutputs, State.setCur, h.env,
      State.core_setCore_other, h.other]
  uncounted j' hj' := by
    have hne : j' ≠ i := by
      rintro rfl
      rw [← hi, h.turn] at hj'
      omega
    rw [cur_nextCounter, cur_clockPart, Core.counter_setCounter, if_neg hne, h.uncounted j' (by omega)]

/-- A part before the last leaves the turn to the next one. -/
theorem step_next (h : InClock s k t) (ha : s.env.agent = .count) (hh : s.lines.halted = false) {i j : CtrId}
    (hi : t.ctr = i) (hj : ctrNumber j = k + 1) :
    step t = .next (nextCounter j (clockPart s i k t)) ∧ InClock s (k + 1) (nextCounter j (clockPart s i k t)) := by
  refine ⟨?_, h.next hi hj⟩
  have hturn : ctrNumber j = ctrNumber (clockPart s i k t).ctr + 1 := by
    rw [hj, ctr_clockPart, h.turn]
  rw [h.step_eq ha hh hi, advance_of_next_turn (h.env_clockPart i ▸ ha) hturn]

/-- The last part ends the clock, and with it the wait of D7. -/
theorem step_last (h : InClock s k t) (ha : s.env.agent = .count) (hh : s.lines.halted = false) (hi : t.ctr = .c3) :
    step t = .next (boundary ((clockPart s .c3 k t).setCur
      { t.cur.setCounter .c3 (clockCounter s .c3 k) with clockOwed := false })) := by
  have hlines : (clockPart s .c3 k t).lines.halted = false := by
    rw [State.lines, h.env_clockPart]
    exact hh
  rw [h.step_eq ha hh hi, advance_of_last_turn (h.env_clockPart _ ▸ ha) ((ctr_clockPart ..).trans hi),
    clockDone_unhalted hlines, cur_clockPart]

end InClock

/-- Settles O35: the four parts in turn, then the boundary. -/
theorem fourStepsAreOneClockOfR135 : Obligations.FourStepsAreOneClockOfR135 := by
  intro s ha hc hh
  obtain ⟨hpart0, h1⟩ := (InClock.start hc).step_next ha hh hc (j := .c1) rfl
  obtain ⟨hpart1, h2⟩ := h1.step_next ha hh (i := .c1) (j := .c2) rfl rfl
  obtain ⟨hpart2, h3⟩ := h2.step_next ha hh (i := .c2) (j := .c3) rfl rfl
  simp only [stepTimes, hpart0, hpart1, hpart2, h3.step_last ha hh rfl]
  obtain ⟨core0, core1, mem, ⟨agent, core, lines0, lines1, occ⟩, ctr, tick, outputs, events⟩ := s
  cases core <;> rfl

end Sys2Proof.Machine

/-! ### Several clocks of one counter (`41_counting.md` R127, R128, R130, R133), and what requests an interrupt (R300)

A run of one counter keeps what its amount depends on (`SameSurroundings`), so each clock's amount can be read off the
state before the run. -/

namespace Sys2Proof.Machine

/-! #### What the amount depends on, besides the report -/

/-- `t` has the moving core, the turn, the step number, the part and the other core of `s`. -/
structure SameSurroundings (s t : State) : Prop where
  core : t.env.core = s.env.core
  ctr : t.ctr = s.ctr
  tick : t.tick = s.tick
  events : t.events = s.events
  other : t.core s.env.core.other = s.core s.env.core.other

namespace SameSurroundings

variable {s t u : State}

theorem refl (s : State) : SameSurroundings s s :=
  ⟨rfl, rfl, rfl, rfl, rfl⟩

theorem trans (h : SameSurroundings s t) (h' : SameSurroundings t u) : SameSurroundings s u where
  core := h'.core.trans h.core
  ctr := h'.ctr.trans h.ctr
  tick := h'.tick.trans h.tick
  events := h'.events.trans h.events
  other := by rw [← h.core, h'.other, h.core, h.other]

theorem of_afterCounting (s : State) (q : Qualifiers) (a : Nat) : SameSurroundings s (afterCounting s q a) where
  core := by rw [env_afterCounting]
  ctr := ctr_afterCounting ..
  tick := tick_afterCounting ..
  events := events_afterCounting ..
  other := core_other_afterCounting ..

theorem of_withEnv {e : Env} (h : e.core = s.env.core) : SameSurroundings s { s with env := e } :=
  ⟨h, rfl, rfl, rfl, State.core_withEnv ..⟩

theorem northbridge_iff (h : SameSurroundings s t) : OtherCoreSelectsNorthbridge t ↔ OtherCoreSelectsNorthbridge s := by
  unfold OtherCoreSelectsNorthbridge
  rw [h.core, h.ctr, h.other]

theorem amountOnPart_eq (h : SameSurroundings s t) (code um : BitVec 8) (n : Nat) :
    amountOnPart t code um n = amountOnPart s code um n := by
  unfold amountOnPart partHas
  rw [h.events, h.tick]

end SameSurroundings

theorem cur_withEnv {s : State} {e : Env} (h : e.core = s.env.core) : ({ s with env := e } : State).cur = s.cur := by
  change ({ s with env := e } : State).core e.core = s.core s.env.core
  rw [State.core_withEnv, h]

/-! #### The static signal of event 76h and the edge detector (R127, R128) -/

theorem plainFieldsDefined_of_zero {q : Qualifiers} (hc : q.cntMask = 0) (hi : q.invert = false) : PlainFieldsDefined q :=
  ⟨by rw [hc]; decide, fun _ => hi⟩

theorem exec_evt76h_plain {s : State} {q : Qualifiers} (hc : q.cntMask = 0) (hi : q.invert = false)
    (hh : s.lines.halted = false) (hn : ¬OtherCoreSelectsNorthbridge s) :
    exec (.evt76h q) s = .next (afterCounting s q (amountOnPart s 0x76 q.unitMask 1)) := by
  rw [exec_evt76h hh (plainFieldsDefined_of_zero hc hi) hn, specAmount_of_cntMask_zero hc]

theorem specCounter_ctr (q : Qualifiers) (cpl : BitVec 2) (a : Nat) (n : Counter) :
    (specCounter q cpl a n).ctr = n.ctr + BitVec.ofNat 48 (specInc q cpl n.prev a) := by
  apply BitVec.eq_of_toNat_eq
  simp [toNat_ctr_specCounter]

/-- R127: the same amount as in the clock before is no rising edge, whatever the gate did in the two clocks. -/
theorem specInc_of_same_signal {q : Qualifiers} (h : q.edge = true) (q' : Qualifiers) (cpl cpl' : BitVec 2) (a : Nat)
    (n : Counter) : specInc q cpl (specCounter q' cpl' a n).prev a = 0 := by
  cases hg : gateOpen q cpl with
  | false => exact specInc_of_gateClosed hg ..
  | true =>
    rw [specInc_of_gateOpen hg, candidate_of_edge h, if_neg]
    simp [specCounter]

/-- In edge mode the clock of event 76h after one of the same amount counts nothing. -/
theorem exec_evt76h_after_same {s : State} {q : Qualifiers} (q' : Qualifiers) {e : Env} (hedge : q.edge = true)
    (hc : q.cntMask = 0) (hi : q.invert = false) (hn : ¬OtherCoreSelectsNorthbridge s) (hcore : e.core = s.env.core)
    (hh : (e.lines e.core).halted = false) :
    ∃ u, exec (.evt76h q) { afterCounting s q' (amountOnPart s 0x76 q.unitMask 1) with env := e } = .next u ∧
      (u.cur.counter s.ctr).ctr =
        ((afterCounting s q' (amountOnPart s 0x76 q.unitMask 1)).cur.counter s.ctr).ctr ∧
      u.outputs = (afterCounting s q' (amountOnPart s 0x76 q.unitMask 1)).outputs := by
  generalize ha : amountOnPart s 0x76 q.unitMask 1 = a
  have hcore' : e.core = (afterCounting s q' a).env.core := by rw [env_afterCounting, hcore]
  have hs := (SameSurroundings.of_afterCounting s q' a).trans (.of_withEnv hcore')
  have hcur : ({ afterCounting s q' a with env := e } : State).cur = (afterCounting s q' a).cur := cur_withEnv hcore'
  have hexec := exec_evt76h_plain hc hi (s := { afterCounting s q' a with env := e }) hh (hs.northbridge_iff.not.mpr hn)
  rw [hs.amountOnPart_eq, ha] at hexec
  have hinc : specInc q (e.lines e.core).cpl
      (({ afterCounting s q' a with env := e } : State).cur.counter (afterCounting s q' a).ctr).prev a = 0 := by
    rw [hcur, ctr_afterCounting, counter_cur_afterCounting]
    exact specInc_of_same_signal hedge ..
  obtain ⟨hctr, _, hout⟩ := afterCounting_of_specInc_zero (s := { afterCounting s q' a with env := e }) hinc
  rw [hcur] at hctr
  refine ⟨_, hexec, ?_, hout⟩
  rw [← ctr_afterCounting s q' a]
  exact hctr

/-- Settles O37: the detector holds 0, so that the first clock is a rise of the static signal, and the second is none. -/
theorem eventChangedWhileEnabledCountsOneFalseEdge : Obligations.EventChangedWhileEnabledCountsOneFalseEdge := by
  intro s q e hedge hen hlevel hc hi hh hn hprev hcore hh'
  obtain ⟨u, hu, hctr, _⟩ := exec_evt76h_after_same q hedge hc hi hn hcore hh'
  refine ⟨_, u, exec_evt76h_plain hc hi hh hn, hu, ?_, hctr⟩
  rw [counter_cur_afterCounting, specCounter_ctr, specInc_of_gateOpen (gateOpen_of_selected hen hlevel),
    candidate_of_edge hedge]
  cases amountOnPart s 0x76 q.unitMask 1 <;> simp [hprev]

/-- Settles O38: with EN = 0 the first clock only brings the detector to the signal, so that the second is no rise. -/
theorem twoWriteProcedureCountsNoFalseEdge : Obligations.TwoWriteProcedureCountsNoFalseEdge := by
  intro s q e hedge hc hi hh hn hcore hh'
  have hfirst := exec_evt76h_plain (q := { q with enable := false }) hc hi hh hn
  obtain ⟨u, hu, hctr, hout⟩ :=
    exec_evt76h_after_same (q := { q with enable := true }) { q with enable := false } hedge hc hi hn hcore hh'
  obtain ⟨hctr0, _, hout0⟩ := afterCounting_of_specInc_zero (s := s) (a := amountOnPart s 0x76 q.unitMask 1)
    (specInc_of_gateClosed (gateOpen_of_disabled (q := { q with enable := false }) rfl) ..)
  exact ⟨_, u, hfirst, hu, hctr.trans hctr0, hout.trans hout0⟩

/-! #### A run of one counter (R130, R131, R133) -/

/-- From `s` to `t` the counter whose turn it is has counted `k` units under `q`: its value is the sum modulo 2^48, it has
requested the interrupt once for each 2^48 passed if INT is 1, and what the next clock's amount depends on is kept. -/
structure Counted (q : Qualifiers) (s t : State) (k : Nat) : Prop where
  surroundings : SameSurroundings s t
  lines : t.lines = s.lines
  value : (t.cur.counter s.ctr).ctr.toNat = ((s.cur.counter s.ctr).ctr.toNat + k) % 2 ^ 48
  requests : requestCount s.env.core s.ctr t.outputs = requestCount s.env.core s.ctr s.outputs +
    (if q.intEnable then ((s.cur.counter s.ctr).ctr.toNat + k) / 2 ^ 48 else 0)

theorem Counted.refl (q : Qualifiers) (s : State) : Counted q s s 0 where
  surroundings := .refl s
  lines := rfl
  value := by rw [Nat.add_zero, Nat.mod_eq_of_lt (s.cur.counter s.ctr).ctr.isLt]
  requests := by simp [Nat.div_eq_of_lt (s.cur.counter s.ctr).ctr.isLt]

theorem Counted.trans {q : Qualifiers} {s t u : State} {k m : Nat} (h : Counted q s t k) (h' : Counted q t u m) :
    Counted q s u (k + m) where
  surroundings := h.surroundings.trans h'.surroundings
  lines := h'.lines.trans h.lines
  value := by
    have hv := h'.value
    rw [h.surroundings.ctr, h.value] at hv
    omega
  requests := by
    have hr := h'.requests
    rw [h.surroundings.ctr, h.surroundings.core, h.value, h.requests] at hr
    rw [hr]
    split <;> omega

theorem requestCount_append (c : CoreId) (i : CtrId) (l m : List Output) :
    requestCount c i (l ++ m) = requestCount c i l + requestCount c i m :=
  List.countP_append

theorem counted_afterCounting {q : Qualifiers} {s : State} {a d : Nat} (hd : d ≤ 3)
    (hinc : specInc q s.lines.cpl (s.cur.counter s.ctr).prev a = d) : Counted q s (afterCounting s q a) d where
  surroundings := .of_afterCounting ..
  lines := lines_afterCounting ..
  value := by rw [counter_cur_afterCounting, toNat_ctr_specCounter, hinc]
  requests := by
    have hlt := (s.cur.counter s.ctr).ctr.isLt
    rw [outputs_afterCounting, requestCount_append, requestCount_specOutputs, hinc]
    unfold SpecRequests
    cases q.intEnable with
    | false => simp
    | true => simp only [and_true, if_true]; split <;> omega

theorem amountOnPart_le_three (s : State) (code um : BitVec 8) {n : Nat} (h : n ≤ 3) : amountOnPart s code um n ≤ 3 := by
  unfold amountOnPart
  split
  · exact h
  · exact Nat.le_of_lt_succ (Config.draw s.tick).isLt

/-- The oracle's report is no part of what `Counted` speaks of. -/
theorem counted_reporting (q : Qualifiers) (s : State) (n : BitVec 2) : Counted q s (reporting s n) 0 := by
  have hcur : (reporting s n).cur = s.cur := cur_withEnv rfl
  obtain ⟨_, _, hvalue, hrequests⟩ := Counted.refl q s
  exact ⟨.of_withEnv rfl, rfl, hcur ▸ hvalue, hrequests⟩

/-- The run stays in the configuration in which it counts every unit: enabled, level mode, no threshold. -/
theorem countRun_counted {q : Qualifiers} {i : Instr} (hi : formOf i = (some q, some (.noTable .occurrence)))
    (hedge : q.edge = false) (hen : q.enable = true) (hc : q.cntMask = 0) (hinv : q.invert = false)
    (ns : List (BitVec 2)) (s : State) (hlevel : LevelSelected s q) (hh : s.lines.halted = false)
    (hn : ¬OtherCoreSelectsNorthbridge s) :
    ∃ t, countRun i ns s = some t ∧
      Counted q s t (ns.map fun n => amountOnPart s (codeOf i) q.unitMask n.toNat).sum := by
  induction ns generalizing s with
  | nil => exact ⟨s, rfl, .refl q s⟩
  | cons n ns ih =>
    have hr := counted_reporting q s n
    have hreport : ((reporting s n).env.occ.get (reporting s n).ctr).count = n := by
      simp [reporting]
    have hexec := exec_noTable (s := reporting s n) hi hh (plainFieldsDefined_of_zero hc hinv)
      (hr.surroundings.northbridge_iff.not.mpr hn)
    rw [hreport, Kind.bound_occurrence, specAmount_of_cntMask_zero hc, hr.surroundings.amountOnPart_eq] at hexec
    have hunit := hr.trans (counted_afterCounting (s := reporting s n) (q := q)
      (amountOnPart_le_three s (codeOf i) q.unitMask (Nat.le_of_lt_succ n.isLt))
      ((specInc_of_gateOpen (gateOpen_of_selected hen hlevel) ..).trans (candidate_of_level hedge ..)))
    generalize afterCounting (reporting s n) q (amountOnPart s (codeOf i) q.unitMask n.toNat) = t at hexec hunit
    obtain ⟨u, hu, hrest⟩ := ih t (by rw [LevelSelected, hunit.lines]; exact hlevel) (by rw [hunit.lines, hh])
      (hunit.surroundings.northbridge_iff.not.mpr hn)
    refine ⟨u, by rw [countRun, hexec]; exact hu, ?_⟩
    simp only [hunit.surroundings.amountOnPart_eq] at hrest
    rw [List.map_cons, List.sum_cons, ← Nat.zero_add (amountOnPart _ _ _ _)]
    exact hunit.trans hrest

/-- Settles O36: each clock adds its unit, and the run's sum is that of its clocks. -/
theorem preloadedCounterOverflowsAfterItsUnits : Obligations.PreloadedCounterOverflowsAfterItsUnits := by
  intro q s i ns hi hedge hen hc hinv hlevel hh hn
  have hform := apply_eq_of_mem (f := formOf) (b := (some q, some (.noTable .occurrence))) hi rfl
  obtain ⟨t, hrun, _, _, hvalue, hrequests⟩ := countRun_counted hform hedge hen hc hinv ns s hlevel hh hn
  exact ⟨t, hrun, hvalue, hrequests⟩

/-! #### What a step appends to the outputs (R133, R134, R300) -/

@[simp] theorem outputs_enterTrap (e : Trap) (s : State) : (enterTrap e s).outputs = s.outputs :=
  State.outputs_setCur ..

@[simp] theorem outputs_takeInterrupt (s : State) : (takeInterrupt s).outputs = s.outputs := by
  unfold takeInterrupt
  split
  · exact State.outputs_setCur ..
  · rfl

/-- A step emits nothing, or it is one counter's part of an unhalted clock. -/
theorem step_outputs_cases {s t : State} (h : step s = .next t) :
    t.outputs = s.outputs ∨ (s.env.agent = .count ∧ s.lines.halted = false ∧ ∃ a, a ≤ 3 ∧
      t = advance (afterCounting s (qualifiersOf (s.cur.counter s.ctr).sel) a)) := by
  obtain ⟨_, hinstr⟩ | ⟨hagent, _⟩ | ⟨_, rfl⟩ := step_cases h
  · left
    obtain ⟨_, rfl⟩ | ⟨e, _, rfl⟩ | ⟨i, hi, ⟨_, rfl⟩ | ⟨u, hu, rfl⟩⟩ := hinstr
    · exact outputs_advance s
    · rw [outputs_advance, outputs_enterTrap]
    · exact outputs_advance s
    · obtain ⟨k, rfl, _⟩ := exec_register_eq_setCur (by simpa using decodeBytes_eq_ok hi) hu
      rw [outputs_advance, State.outputs_setCur]
  · obtain ⟨_, rfl⟩ | ⟨hh, hcount⟩ := step_count_cases hagent h
    · exact .inl (outputs_advance s)
    · exact .inr ⟨hagent, hh, hcount⟩
  · exact .inl (by rw [outputs_advance, outputs_takeInterrupt])

/-- An overflow needs an increment, and an increment needs EN. -/
theorem enable_of_specRequests {q : Qualifiers} {cpl : BitVec 2} {prev : Bool} {a : Nat} {k : Count}
    (h : SpecRequests q k.toNat (specInc q cpl prev a)) : q.enable = true := by
  rw [← Bool.not_eq_false]
  intro hen
  rw [specInc_of_gateClosed (gateOpen_of_disabled hen)] at h
  exact not_specRequests_zero q k h

/-- Settles O45: only counting emits, and of what it emits R133 gives the condition. -/
theorem requestsComeOnlyFromOverflows : Obligations.RequestsComeOnlyFromOverflows := by
  intro s t l c i h hout hmem
  obtain hsame | ⟨hagent, hh, a, ha, rfl⟩ := step_outputs_cases h
  · rw [hsame, List.self_eq_append_right] at hout
    rw [hout] at hmem
    cases hmem
  · rw [outputs_advance, outputs_afterCounting, List.append_cancel_left_eq] at hout
    rw [← hout] at hmem
    obtain ⟨hreq, rfl, rfl⟩ := apicPerfInt_mem_specOutputs.mp hmem
    refine ⟨hagent, rfl, rfl, hh, enable_of_specRequests hreq, hreq.2, _, specInc_le_three _ _ _ ha, hreq.1, ?_⟩
    rw [counter_advance, counter_afterCounting, if_pos ⟨rfl, rfl⟩, toNat_ctr_specCounter]
    rfl

end Sys2Proof.Machine

/-! ### Event 76h (`43_events_ic_ex.md` R242) -/

namespace Sys2Proof.Machine

/-- Settles O23: event 76h has no table, and its catalogue entry reports one occurrence whatever the oracle does. -/
theorem unhaltedClocksCountEveryClock : Obligations.UnhaltedClocksCountEveryClock :=
  fun _ _ hh hp hn => exec_evt76h hh hp hn

end Sys2Proof.Machine

/-! ### Event E9h (`44_events_nb_ht.md` R287, `93_implementation_defined.md` U7) -/

namespace Sys2Proof.Machine

/-- R79, R287, U7: E9h's table has all eight bits, so a supported path is all that its UNIT_MASK needs. -/
theorem unitMaskDefined_E9h {um : BitVec 8} (h : ∃ p ∈ requestPaths, um &&& p = p) : UnitMaskDefined 0xE9 um :=
  ⟨fun _ => BitVec.and_zero, fun _ => h⟩

/-- R122, R287, U25: the catalogue entry has the ten supported paths as occurrence rows and sums the selected ones. -/
theorem occ_eventE9h (um : BitVec 8) (inp : EventInput) :
    eventE9h.occ um inp = min 3 (selectedSum um (requestPaths.map fun p => (p, false)) inp.lanes) :=
  congrArg (min 3) (laneSum_eq_selectedSum um _ inp.lanes)

/-- Settles O25: with a supported path selected the UNIT_MASK is defined, and the event reports the sum over the selected
paths. -/
theorem requestFlowEventCountsTheSupportedPaths : Obligations.RequestFlowEventCountsTheSupportedPaths := by
  intro s q hh hp hn hpath
  have hcode : codeOf (.evtE9h q) = 0xE9 := codeOf_eq (e := eventE9h) rfl
  have hu : UnitMaskDefined (codeOf (.evtE9h q)) q.unitMask := hcode ▸ unitMaskDefined_E9h hpath
  rw [exec_event_defined (e := eventE9h) rfl rfl hh hp hu hn, occ_eventE9h, hcode]

end Sys2Proof.Machine

/-! ### Exceptions, interrupts and shared resources (`60_exceptions.md`)

What the instruction agent and the interrupt agent do besides running an instruction, what a step can do to the outputs and,
at CPL > 0, to the facility, and the counter number that the other core holds on a Northbridge event (R316). -/

namespace Sys2Proof.Machine

/-! #### The other core's Northbridge event (section 6) -/

/-- R316, R137 (e): the other core holds the counter number exactly on a dual-core processor. -/
theorem heldByOtherCore_of_northbridge {s : State} (h : OtherCoreSelectsNorthbridge s) :
    heldByOtherCore s = Config.dualCore := by
  obtain ⟨henable, hcode⟩ := h
  have hen : (qualifiersOf ((s.core s.env.core.other).counter s.ctr).sel).enable = true := henable
  have hnb : isNorthbridge (eventCode ((s.core s.env.core.other).counter s.ctr).sel) = true :=
    List.contains_iff_mem.mpr hcode
  rw [heldByOtherCore, hen, hnb, Bool.and_self, Bool.true_and]

theorem undefinedConfig_of_shared (rev : Rev) (listed : Option (BitVec 8)) (e : Event) (q : Qualifiers) :
    undefinedConfig rev listed e q true = true :=
  Bool.or_true _

/-- Settles O28: on a dual-core processor the held number makes the configuration undefined; on any other the amount is
the event's own. -/
theorem northbridgeEventOnTheOtherCoreGivesADraw : Obligations.NorthbridgeEventOnTheOtherCoreGivesADraw := by
  intro s q i hq hh hnb
  obtain ⟨e, he⟩ := eventOf_of_qualifiers hq
  refine ⟨eventAmount e q s, ?_⟩
  split
  · next hdual =>
    refine exec_event_undefined he hq hh ?_
    rw [heldByOtherCore_of_northbridge hnb, hdual, undefinedConfig_of_shared]
  · exact exec_event_unhalted he hq hh

/-! #### What a step does to the outputs and, in user mode, to the facility (sections 1 and 4) -/

/-- R133, R134: a counter's part of a clock emits at most one request and one toggle. -/
theorem length_specOutputs_le_two (q : Qualifiers) (cpl : BitVec 2) (a : Nat) (n : Counter) (c : CoreId) (i : CtrId) :
    (specOutputs q cpl a n c i).length ≤ 2 := by
  have hone : ∀ (p : Prop) [Decidable p] (o : Output), (if p then [o] else []).length ≤ 1 := by
    intro p _ o
    split <;> simp
  rw [specOutputs, List.length_append]
  exact Nat.add_le_add (hone _ _) (hone _ _)

/-- Settles O46: a step that emits is one counter's part of a clock, which appends that part's outputs. -/
theorem outputsAreNeverWithdrawn : Obligations.OutputsAreNeverWithdrawn := by
  intro s t h
  obtain hsame | ⟨_, _, a, _, rfl⟩ := step_outputs_cases h
  · exact ⟨[], by rw [hsame, List.append_nil], Nat.zero_le 2⟩
  · exact ⟨_, by rw [outputs_advance, outputs_afterCounting], length_specOutputs_le_two ..⟩

theorem counters_eq_of_counter_eq {k k' : Core} (h : ∀ i, k'.counter i = k.counter i) : k'.counters = k.counters := by
  have h0 : k'.counters.c0 = k.counters.c0 := h .c0
  have h1 : k'.counters.c1 = k.counters.c1 := h .c1
  have h2 : k'.counters.c2 = k.counters.c2 := h .c2
  have h3 : k'.counters.c3 = k.counters.c3 := h .c3
  calc k'.counters = ⟨k'.counters.c0, k'.counters.c1, k'.counters.c2, k'.counters.c3⟩ := rfl
    _ = k.counters := by rw [h0, h1, h2, h3]

/-- Settles O47: of what a step can do to a counter, counting is not the instruction agent's and the WRMSR needs CPL 0;
and only counting emits. -/
theorem userModeInstructionsCannotChangeTheFacility : Obligations.UserModeInstructionsCannotChangeTheFacility := by
  intro s t ha hcpl h
  have hne : s.env.agent ≠ .count := by rw [ha]; decide
  refine ⟨fun c => counters_eq_of_counter_eq fun i => ?_, ?_⟩
  · obtain hsame | ⟨hcount, _⟩ | ⟨_, _, hzero, _⟩ := step_counter_cases h c i
    · exact hsame
    · exact absurd hcount hne
    · exact absurd hzero hcpl
  · obtain hsame | ⟨hcount, _⟩ := step_outputs_cases h
    · exact hsame
    · exact absurd hcount hne

/-! #### Turns that run no instruction (sections 1, 2, 3 and 8) -/

/-- R320: the instruction agent of a halted core only hands over. -/
theorem step_instr_halted {s : State} (ha : s.env.agent = .instr) (hh : s.lines.halted = true) :
    step s = .next (advance s) := by
  simp [step, ha, instructionAgent, hh]

/-- R305, R307: an exception that a core has raised is taken before its next fetch. -/
theorem step_instr_pending {s : State} {e : Trap} (ha : s.env.agent = .instr) (hh : s.lines.halted = false)
    (hp : s.cur.pendingTrap = some e) : step s = .next (advance (enterTrap e s)) := by
  simp [step, ha, instructionAgent, hh, hp]

theorem advance_of_agent_interrupt {s : State} (h : s.env.agent = .interrupt) : advance s = boundary s := by
  simp [advance, h]

@[simp] theorem env_enterTrap (e : Trap) (s : State) : (enterTrap e s).env = s.env :=
  State.env_setCur ..

@[simp] theorem env_takeInterrupt (s : State) : (takeInterrupt s).env = s.env := by
  unfold takeInterrupt
  split
  · exact State.env_setCur ..
  · rfl

/-- D1: the interrupt agent's turn ends at a boundary. -/
theorem step_interrupt {s : State} (ha : s.env.agent = .interrupt) : step s = .next (boundary (takeInterrupt s)) := by
  have hstep : step s = .next (advance (takeInterrupt s)) := by simp [step, ha, interruptAgent]
  rw [hstep, advance_of_agent_interrupt (by rw [env_takeInterrupt, ha])]

theorem isRequestOf_iff {o : Output} {c : CoreId} : o.isRequestOf c = true ↔ ∃ i, o = .apicPerfInt c i := by
  cases o with
  | apicPerfInt c' i => simp [Output.isRequestOf]
  | togglePM c' i => simp [Output.isRequestOf]

/-- R40, R301: the core that moves has requested the interrupt exactly if a request of one of its counters was emitted. -/
theorem any_isRequestOf_iff {l : List Output} {c : CoreId} :
    l.any (fun o => o.isRequestOf c) = true ↔ ∃ i, Output.apicPerfInt c i ∈ l := by
  simp only [List.any_eq_true, isRequestOf_iff]
  constructor
  · rintro ⟨_, hmem, i, rfl⟩
    exact ⟨i, hmem⟩
  · rintro ⟨i, hmem⟩
    exact ⟨_, hmem, i, rfl⟩

/-- Settles O49: the turn is `enterTrap`, and then a boundary. -/
theorem raisedExceptionIsTaken : Obligations.RaisedExceptionIsTaken := by
  intro s e ha hh hp
  rw [step_instr_pending ha hh hp, advance_of_agent_instr (by rw [env_enterTrap, ha]), boundary, enterTrap,
    State.tick_setCur]

/-- Settles O50: the turn is `takeInterrupt`, whose test is that a request of this core stands in the outputs. -/
theorem requestedInterruptMayBeRecognised : Obligations.RequestedInterruptMayBeRecognised := by
  intro s ha
  rw [step_interrupt ha]
  refine ⟨fun hreq => ?_, fun hnone => ?_⟩
  · rw [takeInterrupt, if_pos (any_isRequestOf_iff.mpr hreq), boundary, State.tick_setCur]
  · rw [takeInterrupt, if_neg (any_isRequestOf_iff.not.mpr (not_exists.mpr hnone)), boundary]

/-- Settles O51: the turn is a hand-over. -/
theorem haltedInstructionAgentIdles : Obligations.HaltedInstructionAgentIdles := by
  intro s ha hh
  rw [step_instr_halted ha hh, advance_of_agent_instr ha, boundary]

end Sys2Proof.Machine
